-- ==== Sys2Proof/Word.lean ====
section
/-! DEFINITION. The word and the matrix of the block (00_scope.md R9 to R11). -/

namespace Sys2Proof

/-- A 32-bit word: a CRC value, a length, a matrix row (R9, R21). -/
abbrev Word := BitVec 32

/-- A 32x32 matrix over GF(2): row `i` is the image of the unit vector `1 << i` (R11). -/
abbrev Matrix := Vector Word 32

end Sys2Proof
end

