-- ==== Sys2Proof/Syntax.lean ====
section
/-! DEFINITION. Commands as syntax: the operands' names, the nine instructions, the command port's
words and the three ways a command word is rejected. -/

namespace Sys2Proof

/-- The two matrix banks: `even` is BANK[0], `odd` is BANK[1] (R30). -/
inductive Bank where
  | even
  | odd
  deriving DecidableEq, Repr, Inhabited

/-- The scalar space: selectors 0 to 3 (R52). -/
inductive Scalar where
  | crc1
  | crc2
  | len
  | status
  deriving DecidableEq, Repr, Inhabited

/-- The 67 data elements of R38: three registers and 64 rows. -/
inductive Element where
  | crc1
  | crc2
  | len
  | row (b : Bank) (k : Fin 32)
  deriving DecidableEq, Repr, Inhabited

/-- The nine commands, one constructor per row of spec/opcode_table.json.
WRS and WRROW carry the write data that stands beside the command word (R75). -/
inductive Instr where
  /-- R190. -/
  | nop
  /-- R191: write scalar register `r`. -/
  | wrs (r : Scalar) (v : Word)
  /-- R192: read scalar register `r`. -/
  | rds (r : Scalar)
  /-- R193: write row `k` of bank `b`. -/
  | wrrow (b : Bank) (k : Fin 32) (v : Word)
  /-- R194: read row `k` of bank `b`. -/
  | rdrow (b : Bank) (k : Fin 32)
  /-- R153: load the base operator into ODD. -/
  | minit
  /-- R126: `d` names the destination bank. -/
  | msquare (d : Bank)
  /-- R107. -/
  | mvmul (b : Bank)
  /-- R154. -/
  | combine
  deriving DecidableEq, Repr, Inhabited

/-- What one command puts on the port: the command word and its write data (R73). -/
structure Command where
  cmd : BitVec 16
  wdata : Word
  deriving DecidableEq, Repr, Inhabited

/-- Why a command word is rejected (R211). -/
inductive Reject where
  /-- Reserved opcode (R212). -/
  | eOpcode
  /-- Legal opcode, nonzero must-be-zero bit (R213). -/
  | eField
  /-- Write to the read-only STATUS (R214). -/
  | eAccess
  deriving DecidableEq, Repr, Inhabited

/-- The nine opcodes (R76). -/
inductive Opcode where
  | nop
  | wrs
  | rds
  | wrrow
  | rdrow
  | minit
  | msquare
  | mvmul
  | combine
  deriving DecidableEq, Repr, Inhabited

/-- The four formats (R74): no operand, scalar, bank, row. -/
inductive Format where
  | n
  | s
  | b
  | r
  deriving DecidableEq, Repr, Inhabited

/-- A row of the opcode map (R76): a word `w` is the row's when `w &&& mask = pattern`. -/
structure TableRow where
  opcode : Opcode
  pattern : BitVec 16
  mask : BitVec 16
  deriving DecidableEq, Repr, Inhabited

end Sys2Proof
end

