-- ==== Sys2Proof/WellFormed.lean ====
section
/-! DEFINITION. Which instructions the command word can encode legally.
Bank, row and scalar selectors cannot go out of range (R51), and the aliasing that R122 forbids has no
syntax, so one check is left: WRS names a writable register. -/

namespace Sys2Proof

/-- WRS takes r in 0..2 (R76, R191): STATUS is read-only (R29). -/
def Scalar.writable : Scalar → Bool
  | .crc1 => true
  | .crc2 => true
  | .len => true
  | .status => false

/-- The instructions a legal command word stands for (R76). -/
def Instr.wf : Instr → Bool
  | .nop => true
  | .wrs r _ => r.writable
  | .rds _ => true
  | .wrrow _ _ _ => true
  | .rdrow _ _ => true
  | .minit => true
  | .msquare _ => true
  | .mvmul _ => true
  | .combine => true

/-- `i` is one of the 142 legal command words with its data (R76). -/
abbrev Instr.WellFormed (i : Instr) : Prop := i.wf = true

end Sys2Proof
end

