-- ==== Sys2Proof/Decode.lean ====
section
/-! DEFINITION. The decoder of R77, total on all 2^16 command words, and the encoder of R73 to R76. -/

namespace Sys2Proof

/-! ## Fields of the command word (R73) -/

/-- `cmd[15:12]`. -/
def opcodeField (w : BitVec 16) : BitVec 4 := w.extractLsb' 12 4

/-- `cmd[8]`: 0 EVEN, 1 ODD. -/
def bankField (w : BitVec 16) : Bank := if w.getLsbD 8 then .odd else .even

/-- `cmd[4:0]`. -/
def rowField (w : BitVec 16) : Fin 32 := (w.extractLsb' 0 5).toFin

/-- The scalar a 2-bit selector names (R52). -/
def scalarOfSelector (r : BitVec 2) : Scalar :=
  if r = 0#2 then .crc1 else if r = 1#2 then .crc2 else if r = 2#2 then .len else .status

/-- `cmd[1:0]`. -/
def scalarField (w : BitVec 16) : Scalar := scalarOfSelector (w.extractLsb' 0 2)

/-! ## Opcodes and formats -/

/-- The opcode a 4-bit field names, none for the reserved 0x9 to 0xF (R76, R78). -/
def opcodeOf (op : BitVec 4) : Option Opcode :=
  match op.toNat with
  | 0 => some .nop
  | 1 => some .wrs
  | 2 => some .rds
  | 3 => some .wrrow
  | 4 => some .rdrow
  | 5 => some .minit
  | 6 => some .msquare
  | 7 => some .mvmul
  | 8 => some .combine
  | _ => none

/-- The 4-bit code of an opcode (R76). -/
def Opcode.code : Opcode → BitVec 4
  | .nop => 0x0
  | .wrs => 0x1
  | .rds => 0x2
  | .wrrow => 0x3
  | .rdrow => 0x4
  | .minit => 0x5
  | .msquare => 0x6
  | .mvmul => 0x7
  | .combine => 0x8

/-- R74. -/
def Opcode.format : Opcode → Format
  | .nop => .n
  | .wrs => .s
  | .rds => .s
  | .wrrow => .r
  | .rdrow => .r
  | .minit => .n
  | .msquare => .b
  | .mvmul => .b
  | .combine => .n

/-- The bits a format requires to be zero (R74). -/
def Format.mustBeZero : Format → BitVec 16
  | .n => 0x0FFF
  | .s => 0x0FFC
  | .b => 0x0EFF
  | .r => 0x0EE0

/-- The opcode map as the spec tabulates it, match and mask (R76). -/
def opcodeTable : List TableRow :=
  [⟨.nop, 0x0000, 0xFFFF⟩, ⟨.wrs, 0x1000, 0xFFFC⟩, ⟨.rds, 0x2000, 0xFFFC⟩,
   ⟨.wrrow, 0x3000, 0xFEE0⟩, ⟨.rdrow, 0x4000, 0xFEE0⟩, ⟨.minit, 0x5000, 0xFFFF⟩,
   ⟨.msquare, 0x6000, 0xFEFF⟩, ⟨.mvmul, 0x7000, 0xFEFF⟩, ⟨.combine, 0x8000, 0xFFFF⟩]

/-- `w` is the word of a row when `(w & mask) = match` (R76). -/
def TableRow.accepts (row : TableRow) (w : BitVec 16) : Bool := w &&& row.mask == row.pattern

/-! ## Decoding -/

/-- The instruction of a word whose opcode is known and whose must-be-zero bits are zero. -/
def instrOf (op : Opcode) (c : Command) : Instr :=
  match op with
  | .nop => .nop
  | .wrs => .wrs (scalarField c.cmd) c.wdata
  | .rds => .rds (scalarField c.cmd)
  | .wrrow => .wrrow (bankField c.cmd) (rowField c.cmd) c.wdata
  | .rdrow => .rdrow (bankField c.cmd) (rowField c.cmd)
  | .minit => .minit
  | .msquare => .msquare (bankField c.cmd)
  | .mvmul => .mvmul (bankField c.cmd)
  | .combine => .combine

/-- R77 (3): a WRS that names STATUS. -/
def writesStatus (op : Opcode) (w : BitVec 16) : Bool := op == .wrs && scalarField w == .status

/-- R77, in its order: reserved opcode, must-be-zero bits, read-only STATUS, else legal.
No state takes part in it (R80). -/
def decode (c : Command) : Except Reject Instr :=
  match opcodeOf (opcodeField c.cmd) with
  | none => .error .eOpcode
  | some op =>
    if c.cmd &&& op.format.mustBeZero ≠ 0#16 then .error .eField
    else if writesStatus op c.cmd then .error .eAccess
    else .ok (instrOf op c)

/-! ## Encoding -/

/-- The 1-bit number of a bank (R30). -/
def Bank.bit : Bank → BitVec 1
  | .even => 0
  | .odd => 1

/-- The 2-bit selector of a scalar (R52). -/
def Scalar.selector : Scalar → BitVec 2
  | .crc1 => 0
  | .crc2 => 1
  | .len => 2
  | .status => 3

/-- The command word from its fields (R73): opcode, 000, b, 000, idx. -/
def commandWord (op : Opcode) (b : BitVec 1) (idx : BitVec 5) : BitVec 16 :=
  op.code ++ 0#3 ++ b ++ 0#3 ++ idx

/-- The opcode of an instruction. -/
def Instr.opcode : Instr → Opcode
  | .nop => .nop
  | .wrs _ _ => .wrs
  | .rds _ => .rds
  | .wrrow _ _ _ => .wrrow
  | .rdrow _ _ => .rdrow
  | .minit => .minit
  | .msquare _ => .msquare
  | .mvmul _ => .mvmul
  | .combine => .combine

/-- The words of an instruction (R73 to R76); `wdata` is zero where it is ignored (R81). -/
def encode : Instr → Command
  | .nop => ⟨commandWord .nop 0 0, 0⟩
  | .wrs r v => ⟨commandWord .wrs 0 (r.selector.zeroExtend 5), v⟩
  | .rds r => ⟨commandWord .rds 0 (r.selector.zeroExtend 5), 0⟩
  | .wrrow b k v => ⟨commandWord .wrrow b.bit (BitVec.ofFin k), v⟩
  | .rdrow b k => ⟨commandWord .rdrow b.bit (BitVec.ofFin k), 0⟩
  | .minit => ⟨commandWord .minit 0 0, 0⟩
  | .msquare d => ⟨commandWord .msquare d.bit 0, 0⟩
  | .mvmul b => ⟨commandWord .mvmul b.bit 0, 0⟩
  | .combine => ⟨commandWord .combine 0 0, 0⟩

/-- The same instruction with other write data; only WRS and WRROW carry any (R75). -/
def Instr.withData : Instr → Word → Instr
  | .nop, _ => .nop
  | .wrs r _, v => .wrs r v
  | .rds r, _ => .rds r
  | .wrrow b k _, v => .wrrow b k v
  | .rdrow b k, _ => .rdrow b k
  | .minit, _ => .minit
  | .msquare d, _ => .msquare d
  | .mvmul b, _ => .mvmul b
  | .combine, _ => .combine

/-! ## The opcode table's numbering -/

/-- The `nbits` bits `w` of an instruction as the port carries them: bits 15:0 are `cmd`, the bits above
them `wdata`, and every bit from `nbits` on is zero (log 7). -/
def commandOfTableWord (nbits w : Nat) : Command :=
  ⟨BitVec.ofNat 16 (w % 2 ^ nbits), BitVec.ofNat 32 ((w % 2 ^ nbits) >>> 16)⟩

/-- The instruction the decoder reads from a word of spec/opcode_table.json, none where it rejects. -/
def decodeTableWord (nbits w : Nat) : Option Instr :=
  match decode (commandOfTableWord nbits w) with
  | .ok i => some i
  | .error _ => none

end Sys2Proof
end

