-- ==== Sys2Proof/Config.lean ====
section
/-! DEFINITION. What is fixed for the machine (R1, R6 to R8) and its one free value. -/

namespace Sys2Proof

/-- The identity the model carries (R1). -/
structure Identity where
  name : String
  origin : String
  sourceRevision : String
  hardwareRevision : Nat
  deriving DecidableEq, Repr

/-- R1. -/
def Config.identity : Identity where
  name := "gf2_matrix_vector_mult"
  origin := "balena-io-modules/node-crc-utils"
  sourceRevision := "v7"
  hardwareRevision := 1

/-- POLY, the reflected CRC-32 polynomial (R6). -/
def Config.poly : Word := 0xEDB88320#32

/-- FREE VALUE (log 1): what data element `e` holds after the reset numbered `draw`.
R37 leaves it unspecified and R38 forbids a fixed value, so it has no body. DESIGN CHOICE. -/
opaque Config.resetData (draw : Nat) (e : Element) : Word

end Sys2Proof
end

