-- ==== Sys2Proof/Machine/Gf2.lean ====
section
/-! DEFINITION. Layer F: the pure functions of the block (40_gf2_matrix_vector_mult.md R100 to R104,
41_gf2_matrix_square.md R120, 42_crc32_combine_engine.md R140 to R151), and the signal-level form of the
two units (R106, R125). Total, and nothing but their operands enters them (R13). -/

namespace Sys2Proof.Machine

/-! ## The matrix-vector product -/

/-- The XOR of a list of words; of no words it is 0 (R100). -/
def xorAll (ws : List Word) : Word := ws.foldr (· ^^^ ·) 0#32

/-- `mvm(M, v)`: the XOR of the rows `M[i]` for every set bit `i` of `v` (R100). -/
def mvm (M : Matrix) (v : Word) : Word :=
  xorAll ((List.finRange 32).map fun i : Fin 32 => if v.getLsbD i then M[i] else 0#32)

/-- The document's loop (R101): `fuel` bounds the iterations, `i` is the row index. It stops as soon as
the remaining vector is 0. -/
def mvmLoop (M : Matrix) : (fuel : Nat) → (i : Nat) → (vec sum : Word) → Word
  | 0, _, _, sum => sum
  | fuel + 1, i, vec, sum =>
    if vec = 0#32 then sum
    else mvmLoop M fuel (i + 1) (vec >>> 1) (if vec.getLsbD 0 then sum ^^^ M.getD i 0#32 else sum)

/-! ## The squaring -/

/-- `square(S)`: row `i` is the product of the whole, unmodified source with its own row `i` (R120). -/
def square (S : Matrix) : Matrix := Vector.ofFn fun i => mvm S S[i]

/-! ## The operators -/

/-- BASE: row 0 is the polynomial, row `k` is `1 << (k-1)` (R140). -/
def base : Matrix := Vector.ofFn fun k => if k = 0 then Config.poly else 1#32 <<< (k.val - 1)

/-- `op j` is OP(2^j): BASE squared `j` times (R142). -/
def op : Nat → Matrix
  | 0 => base
  | j + 1 => square (op j)

/-- `opb k` is OPB(k), the operator for 2^k zero bytes (R142). -/
def opb (k : Nat) : Matrix := op (k + 3)

/-! ## The combine algorithm -/

/-- `bitlen(n)`: the position of the highest set bit plus one, 0 for 0 (R12). -/
def bitlen (n : Nat) : Nat := if n = 0 then 0 else Nat.log2 n + 1

/-- What stands in the three variables of R146 when its loop is left. -/
structure LoopEnd where
  c1 : Word
  even : Matrix
  odd : Matrix
  deriving DecidableEq, Repr

/-- "if n[0] = 1: c1 <- mvm(M, c1)" (R145). -/
def applyIf (bit : Bool) (M : Matrix) (c1 : Word) : Word := if bit then mvm M c1 else c1

/-- Step 4 of R146, one call per pair of half-iterations; `fuel` bounds the pairs. -/
def combineLoop {w : Nat} : (fuel : Nat) → (even odd : Matrix) → (c1 : Word) → (n : BitVec w) → LoopEnd
  | 0, even, odd, c1, _ => ⟨c1, even, odd⟩
  | fuel + 1, _, odd, c1, n =>
    let even := square odd
    let c1 := applyIf (n.getLsbD 0) even c1
    let n := n >>> 1
    if n = 0 then ⟨c1, even, odd⟩
    else
      let odd := square even
      let c1 := applyIf (n.getLsbD 0) odd c1
      let n := n >>> 1
      if n = 0 then ⟨c1, even, odd⟩
      else combineLoop fuel even odd c1 n

/-- Steps 1 to 4 of R146: the set-up (R144), then the loop, which `w` pairs more than suffice for. -/
def combineRun {w : Nat} (c1 : Word) (n : BitVec w) : LoopEnd :=
  let odd := base
  let even := square odd
  let odd := square even
  combineLoop w even odd c1 n

/-- `combine(c1, c2, n)` of R146, for a length of any width `w` (LEN_W, R7 and D27; the hardware has 32).
The degenerate length returns `c1` itself (R143). -/
def combine {w : Nat} (c1 c2 : Word) (n : BitVec w) : Word :=
  if n = 0 then c1 else (combineRun c1 n).c1 ^^^ c2

/-! ## The units' signals -/

/-- The 1024-bit bus of a matrix: row `i` at bits `32*i + 31 : 32*i` (R106). -/
def packMatrix (M : Matrix) : BitVec 1024 :=
  BitVec.ofFnLE fun p : Fin 1024 => (M.getD (p.val / 32) 0#32).getLsbD (p.val % 32)

/-- Row `i` of a 1024-bit bus (R106). -/
def busRow (mat : BitVec 1024) (i : Fin 32) : Word := mat.extractLsb' (32 * i.val) 32

/-- The MVM unit (R106): `prod[j] = XOR over i of (vec[i] & mat[32*i + j])`. -/
def mvmUnit (mat : BitVec 1024) (vec : Word) : Word :=
  BitVec.ofFnLE fun j : Fin 32 =>
    ((List.finRange 32).map fun i : Fin 32 => vec.getLsbD i && mat.getLsbD (32 * i.val + j.val)).foldr xor false

/-- The SQ unit (R125): row `i` of `dst` is the MVM unit's product of `src` and row `i` of `src`. -/
def sqUnit (src : BitVec 1024) : BitVec 1024 := packMatrix (Vector.ofFn fun i => mvmUnit src (busRow src i))

end Sys2Proof.Machine
end

