-- ==== Sys2Proof/Machine/State.lean ====
section
/-! DEFINITION. The state of the block, its pins, the ways a step could stop, and reset. -/

namespace Sys2Proof.Machine

/-- PH, the position in the combine algorithm (R25, R83). An enumeration, so that the codes 9 to 15,
"never held", have no value (log 9). -/
inductive Phase where
  | idle
  | cInit
  | cSq0
  | cSq1
  | cSqe
  | cApe
  | cSqo
  | cApo
  | cFin
  deriving DecidableEq, Repr, Inhabited

/-- `rsp_err` (R211). -/
inductive ErrCode where
  | ok
  | eOpcode
  | eField
  | eAccess
  deriving DecidableEq, Repr, Inhabited

/-- One response (R72). -/
structure Response where
  err : ErrCode
  data : Word
  deriving DecidableEq, Repr, Inhabited

/-- The "written" marks of the 67 data elements (R38): false is unwritten. Ghost state. -/
structure Written where
  crc1 : Bool
  crc2 : Bool
  len : Bool
  even : Vector Bool 32
  odd : Vector Bool 32
  deriving DecidableEq, Repr

/-- Why a step could be faulted. -/
inductive Fault where
  /-- A step's result depends on an unwritten data element (R38). RAISED by no step: every register
  holds a value, so the step goes on with it and the fault is only RECORDED, in `State.recorded` (log 2).
  Safe for claims that assume no fault recorded, unsafe for a claim that overlooks the record. -/
  | readUnwritten
  deriving DecidableEq, Repr

/-- Why an instruction could be refused. -/
inductive Refusal where
  /-- Raised by an arm of exec whose instruction has no meaning yet: none. Safe. -/
  | notModelled (mnemonic : String)
  deriving DecidableEq, Repr

/-- The whole state: R20's registers, banks, PH and DONE; the ghost marks and fault record of R38; the
pins of R70; and a counter for the free values. -/
structure State where
  /-- CRC1: first operand, running value and result (R21). -/
  crc1 : Word
  /-- CRC2: second operand, never written by the engine (R22). -/
  crc2 : Word
  /-- LEN: the unsigned length, consumed by shifting (R23). -/
  len : Word
  /-- BANK[0] (R30). -/
  even : Matrix
  /-- BANK[1] (R30). -/
  odd : Matrix
  /-- PH (R25). -/
  ph : Phase
  /-- DONE (R27). -/
  done : Bool
  /-- Ghost: which data elements have been written since the last reset (R38). -/
  written : Written
  /-- Ghost: the fault of R38, once some step since the last reset has met it. -/
  recorded : Option Fault
  /-- The model's own: how many resets have drawn their free values (log 1). -/
  draw : Nat
  /-- Input pin `rst` in the coming steps, next step first; no sample reads as 0 (R70, log 4). -/
  rstIn : List Bool
  /-- What the host presents, oldest first: `some c` is held until accepted, `none` is a step in which it
  presents nothing, and when the list is over it presents nothing more (R71, R246, log 4). -/
  cmdIn : List (Option Command)
  /-- Output pins `rsp_valid`, `rsp_err`, `rsp_data` of the step just taken (R72, log 6). -/
  rsp : Option Response
  deriving DecidableEq, Repr

/-- No element is written (R38). -/
def Written.none : Written where
  crc1 := false
  crc2 := false
  len := false
  even := Vector.replicate 32 false
  odd := Vector.replicate 32 false

/-- The state after the reset numbered `draw`, with a silent host (R36 to R38, R240): control state as
R36 says, every data element the free value of that reset and unwritten. -/
def State.postReset (draw : Nat) : State where
  crc1 := Config.resetData draw .crc1
  crc2 := Config.resetData draw .crc2
  len := Config.resetData draw .len
  even := Vector.ofFn fun k => Config.resetData draw (.row .even k)
  odd := Vector.ofFn fun k => Config.resetData draw (.row .odd k)
  ph := .idle
  done := false
  written := Written.none
  recorded := none
  draw := draw + 1
  rstIn := []
  cmdIn := []
  rsp := none

/-- The block right after its first reset (R36, R240, R246). -/
def State.reset : State := State.postReset 0

end Sys2Proof.Machine
end

