-- ==== Sys2Proof/Machine/Flags.lean ====
section
/-! DEFINITION. The one flag DONE, the STATUS view, the output pins that are functions of the state, and
the codes the pins carry. -/

namespace Sys2Proof.Machine

/-- DONE is set by the end of a COMBINE (R27). -/
def State.setDone (s : State) : State := { s with done := true }

/-- DONE is cleared by the acceptance of a COMBINE with `LEN != 0` (R27). -/
def State.clearDone (s : State) : State := { s with done := false }

/-- STATUS: bit 0 is DONE, bits 31:1 are 0 (R29). -/
def State.status (s : State) : Word := (BitVec.ofBool s.done).zeroExtend 32

/-- Pin `busy`: `PH != IDLE` (R28). -/
def State.busy (s : State) : Bool := s.ph != .idle

/-- Pin `done` (R27). -/
def State.donePin (s : State) : Bool := s.done

/-- Pin `rst` in the coming step (R70). -/
def State.rstNow (s : State) : Bool := s.rstIn.headD false

/-- Pin `cmd_ready`: not busy and not in reset (R70). -/
def State.cmdReady (s : State) : Bool := !s.busy && !s.rstNow

/-- The command on the port in the coming step, none when `cmd_valid = 0` (R70). -/
def State.presented (s : State) : Option Command := s.cmdIn.headD none

/-- Pin `cmd_valid` (R70). -/
def State.cmdValid (s : State) : Bool := s.presented.isSome

/-- Pin `rsp_valid` of the step just taken (R72). -/
def State.rspValid (s : State) : Bool := s.rsp.isSome

/-- The value of `rsp_err` (R211). -/
def ErrCode.code : ErrCode → BitVec 2
  | .ok => 0
  | .eOpcode => 1
  | .eField => 2
  | .eAccess => 3

/-- The error code a rejection answers with (R211). -/
def errOf : Reject → ErrCode
  | .eOpcode => .eOpcode
  | .eField => .eField
  | .eAccess => .eAccess

/-- The 4-bit code of a phase (R83). -/
def Phase.code : Phase → BitVec 4
  | .idle => 0
  | .cInit => 1
  | .cSq0 => 2
  | .cSq1 => 3
  | .cSqe => 4
  | .cApe => 5
  | .cSqo => 6
  | .cApo => 7
  | .cFin => 8

end Sys2Proof.Machine
end

