-- ==== Sys2Proof/Machine/Ops.lean ====
section
/-! DEFINITION. The named operations on the state: registers, banks, the phase, responses, the command
decoder's exception (R215), the reset step (R240) and the passing of a step on the pins. -/

namespace Sys2Proof.Machine

/-! ## Registers and banks. A write replaces the whole location and marks it written (R38, R56). -/

/-- `CRC1 <- v` (R21). -/
def State.setCrc1 (s : State) (v : Word) : State :=
  { s with crc1 := v, written := { s.written with crc1 := true } }

/-- `CRC2 <- v` (R22). -/
def State.setCrc2 (s : State) (v : Word) : State :=
  { s with crc2 := v, written := { s.written with crc2 := true } }

/-- `LEN <- v` (R23). -/
def State.setLen (s : State) (v : Word) : State :=
  { s with len := v, written := { s.written with len := true } }

/-- `BANK[b]` (R30). -/
def State.bank (s : State) : Bank → Matrix
  | .even => s.even
  | .odd => s.odd

/-- The marks of the rows of a bank (R38). -/
def State.bankMarks (s : State) : Bank → Vector Bool 32
  | .even => s.written.even
  | .odd => s.written.odd

/-- `BANK[b] <- M`, all 32 rows together (R31). -/
def State.setBank (s : State) (b : Bank) (M : Matrix) : State :=
  match b with
  | .even => { s with even := M, written := { s.written with even := Vector.replicate 32 true } }
  | .odd => { s with odd := M, written := { s.written with odd := Vector.replicate 32 true } }

/-- `BANK[b][k] <- v` (R53). -/
def State.setRow (s : State) (b : Bank) (k : Fin 32) (v : Word) : State :=
  match b with
  | .even =>
    { s with even := s.even.set k v, written := { s.written with even := s.written.even.set k true } }
  | .odd =>
    { s with odd := s.odd.set k v, written := { s.written with odd := s.written.odd.set k true } }

/-- `PH <- p` (R25). -/
def State.setPhase (s : State) (p : Phase) : State := { s with ph := p }

/-- Record the fault of R38 unless `defined`: that is, unless every element the step's result depends on
is written. Once recorded it stays until a reset (log 2). -/
def State.dependsOn (s : State) (defined : Bool) : State :=
  { s with recorded := if defined then s.recorded else some .readUnwritten }

/-! ## Responses and exceptions -/

/-- `respond(err, data)`: the one response of the current command (R72). -/
def State.respond (s : State) (err : ErrCode) (data : Word) : State := { s with rsp := some ⟨err, data⟩ }

/-- `raise E`: TAKING AN EXCEPTION on this block. No state is written, the engine is not started, nothing
is saved, control goes nowhere; the response is `(E, 0)` (R12, R215). There is no return from one (R219). -/
def State.raise (s : State) (e : Reject) : State := s.respond (errOf e) 0#32

/-! ## The pins from step to step -/

/-- One step passes on the input pins: the sample of `rst` is used up, a step of presenting nothing is
used up, a presented command stays (R71), and no response stands until this step emits one (R72). -/
def State.tick (s : State) : State :=
  { s with
    rstIn := s.rstIn.tail
    cmdIn := match s.cmdIn with
      | none :: rest => rest
      | held => held
    rsp := none }

/-- The presented command is accepted: it leaves the port (R71). -/
def State.accept (s : State) : State := { s.tick with cmdIn := s.cmdIn.tail }

/-- The reset step (R240, R241): control state as R36 says, all data new free values and unwritten, no
response; what the host still presents stays presented. `s` is the state with its pins passed on. -/
def State.takeReset (s : State) : State :=
  { State.postReset s.draw with rstIn := s.rstIn, cmdIn := s.cmdIn }

end Sys2Proof.Machine
end

