-- ==== Sys2Proof/Machine/Operands.lean ====
section
/-! DEFINITION. The operand forms: a scalar by its selector (R52), a row by bank and index (R53), a whole
bank and the other bank (R126), and for each form the question whether what it yields is written (R38). -/

namespace Sys2Proof.Machine

/-- Bank `1 - b` (R126). -/
def otherBank : Bank → Bank
  | .even => .odd
  | .odd => .even

/-- Scalar location `r` read (R52, R192). -/
def State.readScalar (s : State) : Scalar → Word
  | .crc1 => s.crc1
  | .crc2 => s.crc2
  | .len => s.len
  | .status => s.status

/-- Whether scalar location `r` is written; STATUS "never reads unwritten state" (R192). -/
def State.scalarDefined (s : State) : Scalar → Bool
  | .crc1 => s.written.crc1
  | .crc2 => s.written.crc2
  | .len => s.written.len
  | .status => true

/-- Scalar location `r` written; STATUS is read-only and a write to it raises E_ACCESS (R191, R214). -/
def State.writeScalar (s : State) (r : Scalar) (v : Word) : State :=
  match r with
  | .crc1 => (s.setCrc1 v).respond .ok 0#32
  | .crc2 => (s.setCrc2 v).respond .ok 0#32
  | .len => (s.setLen v).respond .ok 0#32
  | .status => s.raise .eAccess

/-- `BANK[b][k]` read (R194). -/
def State.readRow (s : State) (b : Bank) (k : Fin 32) : Word := (s.bank b)[k]

/-- Whether `BANK[b][k]` is written. -/
def State.rowDefined (s : State) (b : Bank) (k : Fin 32) : Bool := (s.bankMarks b)[k]

/-- Whether every row of bank `b` is written, which a squaring of it depends on (R127). -/
def State.bankDefined (s : State) (b : Bank) : Bool := (List.finRange 32).all fun k => s.rowDefined b k

/-- The product of bank `b` and CRC1 (R107, R159, R161). -/
def State.product (s : State) (b : Bank) : Word := mvm (s.bank b) s.crc1

/-- Whether that product is defined: CRC1 is written, and every row that it selects (R108). -/
def State.productDefined (s : State) (b : Bank) : Bool :=
  s.written.crc1 && (List.finRange 32).all fun k => !s.crc1.getLsbD k || s.rowDefined b k

end Sys2Proof.Machine
end

