-- ==== Sys2Proof/Machine/Access.lean ====
section
/-! DEFINITION. The access commands NOP, WRS, RDS, WRROW, RDROW (44_register_access.md R190 to R194).
A meaning is the step that accepts its command; the port accepts only with PH = IDLE (R71), so no meaning
looks at PH (log 16). -/

namespace Sys2Proof.Machine

/-- NOP (R190). -/
def execNop (s : State) : Host.Outcome State Fault Refusal := .next (s.respond .ok 0#32)

/-- WRS r, V (R191): E_ACCESS for STATUS. -/
def execWrs (r : Scalar) (v : Word) (s : State) : Host.Outcome State Fault Refusal :=
  .next (s.writeScalar r v)

/-- RDS r (R192). -/
def execRds (r : Scalar) (s : State) : Host.Outcome State Fault Refusal :=
  .next ((s.dependsOn (s.scalarDefined r)).respond .ok (s.readScalar r))

/-- WRROW b, k, V (R193). -/
def execWrrow (b : Bank) (k : Fin 32) (v : Word) (s : State) : Host.Outcome State Fault Refusal :=
  .next ((s.setRow b k v).respond .ok 0#32)

/-- RDROW b, k (R194). -/
def execRdrow (b : Bank) (k : Fin 32) (s : State) : Host.Outcome State Fault Refusal :=
  .next ((s.dependsOn (s.rowDefined b k)).respond .ok (s.readRow b k))

end Sys2Proof.Machine
end

