-- ==== Sys2Proof/Machine/Combine.lean ====
section
/-! DEFINITION. MINIT and the acceptance of COMBINE (42_crc32_combine_engine.md R153, R154). The phases that
follow a non-degenerate acceptance are steps of their own, in Machine/Engine.lean. -/

namespace Sys2Proof.Machine

/-- `ODD <- BASE`: the shared step of MINIT and of C_INIT (R153, R155). -/
def State.loadBase (s : State) : State := s.setBank .odd base

/-- MINIT (R153). -/
def execMinit (s : State) : Host.Outcome State Fault Refusal := .next (s.loadBase.respond .ok 0#32)

/-- Whether the acceptance of a COMBINE is defined: it reads LEN, and CRC1 when LEN is 0 (R168). -/
def State.acceptanceDefined (s : State) : Bool := s.written.len && (s.len != 0#32 || s.written.crc1)

/-- COMBINE's acceptance (R154). LEN = 0: DONE <- 1 and the response is CRC1. Otherwise DONE <- 0 and the
engine starts; its response comes from C_FIN. -/
def execCombine (s : State) : Host.Outcome State Fault Refusal :=
  .next
    (if s.len = 0#32 then ((s.dependsOn s.acceptanceDefined).setDone).respond .ok s.crc1
     else ((s.dependsOn s.acceptanceDefined).clearDone).setPhase .cInit)

end Sys2Proof.Machine
end

