-- ==== Sys2Proof/Machine/Product.lean ====
section
/-! DEFINITION. MVMUL (40_gf2_matrix_vector_mult.md R107, R108). -/

namespace Sys2Proof.Machine

/-- MVMUL b: `CRC1 <- mvm(BANK[b], CRC1)`, formed from the old CRC1; the product is also the response
(R107). -/
def execMvmul (b : Bank) (s : State) : Host.Outcome State Fault Refusal :=
  .next (((s.dependsOn (s.productDefined b)).setCrc1 (s.product b)).respond .ok (s.product b))

end Sys2Proof.Machine
end

