-- ==== Sys2Proof/Machine/Squaring.lean ====
section
/-! DEFINITION. The squaring of one bank into the other, and MSQUARE (41_gf2_matrix_square.md R126, R127). -/

namespace Sys2Proof.Machine

/-- `BANK[d] <- square(BANK[1 - d])`: the shared step of MSQUARE and of the squaring phases (R125). -/
def State.squareInto (s : State) (d : Bank) : State :=
  (s.dependsOn (s.bankDefined (otherBank d))).setBank d (square (s.bank (otherBank d)))

/-- MSQUARE d (R126). -/
def execMsquare (d : Bank) (s : State) : Host.Outcome State Fault Refusal :=
  .next ((s.squareInto d).respond .ok 0#32)

end Sys2Proof.Machine
end

