-- ==== Sys2Proof/Machine/Dispatch.lean ====
section
/-! DEFINITION. One arm per constructor of Instr. -/

namespace Sys2Proof.Machine

/-- The meaning of an accepted, legal command. -/
def exec (i : Instr) (s : State) : Host.Outcome State Fault Refusal :=
  match i with
  | .nop => Sys2Proof.Machine.execNop s
  | .wrs r v => Sys2Proof.Machine.execWrs r v s
  | .rds r => Sys2Proof.Machine.execRds r s
  | .wrrow b k v => Sys2Proof.Machine.execWrrow b k v s
  | .rdrow b k => Sys2Proof.Machine.execRdrow b k s
  | .minit => Sys2Proof.Machine.execMinit s
  | .msquare d => Sys2Proof.Machine.execMsquare d s
  | .mvmul b => Sys2Proof.Machine.execMvmul b s
  | .combine => Sys2Proof.Machine.execCombine s

end Sys2Proof.Machine
end

