-- ==== Sys2Proof/Machine/Engine.lean ====
section
/-! DEFINITION. The phases of a COMBINE, one atomic step each (42_crc32_combine_engine.md R155 to R163). -/

namespace Sys2Proof.Machine

/-- C_INIT (R155). -/
def State.phaseInit (s : State) : State := s.loadBase.setPhase .cSq0

/-- C_SQ0 (R156). -/
def State.phaseSq0 (s : State) : State := (s.squareInto .even).setPhase .cSq1

/-- C_SQ1 (R157). -/
def State.phaseSq1 (s : State) : State := (s.squareInto .odd).setPhase .cSqe

/-- C_SQE (R158). -/
def State.phaseSqe (s : State) : State := (s.squareInto .even).setPhase .cApe

/-- C_SQO (R160). -/
def State.phaseSqo (s : State) : State := (s.squareInto .odd).setPhase .cApo

/-- The conditional apply, the shift and the stop test shared by C_APE and C_APO: `b` is the bank applied,
`again` the phase taken when the shifted length is not 0 (R159, R161). -/
def State.applyShift (s : State) (b : Bank) (again : Phase) : State :=
  let n' := s.len >>> 1
  let next := if n' = 0#32 then Phase.cFin else again
  if s.len.getLsbD 0 then
    (((s.dependsOn (s.written.len && s.productDefined b)).setCrc1 (s.product b)).setLen n').setPhase next
  else ((s.dependsOn s.written.len).setLen n').setPhase next

/-- C_APE (R159). -/
def State.phaseApe (s : State) : State := s.applyShift .even .cSqo

/-- C_APO (R161). -/
def State.phaseApo (s : State) : State := s.applyShift .odd .cSqe

/-- C_FIN (R162). -/
def State.phaseFin (s : State) : State :=
  ((((s.dependsOn (s.written.crc1 && s.written.crc2)).setCrc1 (s.crc1 ^^^ s.crc2)).setDone).setPhase
    .idle).respond .ok (s.crc1 ^^^ s.crc2)

/-- The engine's step for the phase it is in; it has none while IDLE (R163). -/
def State.phaseStep (s : State) : State :=
  match s.ph with
  | .idle => s
  | .cInit => s.phaseInit
  | .cSq0 => s.phaseSq0
  | .cSq1 => s.phaseSq1
  | .cSqe => s.phaseSqe
  | .cApe => s.phaseApe
  | .cSqo => s.phaseSqo
  | .cApo => s.phaseApo
  | .cFin => s.phaseFin

end Sys2Proof.Machine
end

