-- ==== Sys2Proof/Machine/Port.lean ====
section
/-! DEFINITION. The command port: what becomes of an accepted command word (R71, R77), the order of events
within a step (R217), and the placing of a command on the port. -/

namespace Sys2Proof.Machine

/-- The accepted command `c`: decoded, then executed or rejected (R77, R215). `s` is the state with the
command taken off the port. -/
def runCommand (c : Command) (s : State) : Host.Outcome State Fault Refusal :=
  match decode c with
  | .ok i => exec i s
  | .error e => .next (s.raise e)

/-- One step, in R217's order: reset; else the phase of PH; else a presented command; else nothing. -/
def oneStep (s : State) : Host.Outcome State Fault Refusal :=
  if s.rstNow then .next s.tick.takeReset
  else if s.busy then .next s.tick.phaseStep
  else
    match s.presented with
    | some c => runCommand c s.accept
    | none => .next s.tick

/-- The host presents `c` in the coming step, in which `rst = 0` and the port is open; what it had in mind
before comes after (log 5). -/
def State.present (s : State) (c : Command) : State :=
  { s with ph := .idle, rstIn := false :: s.rstIn, cmdIn := some c :: s.cmdIn }

end Sys2Proof.Machine
end

