-- ==== Sys2Proof/Machine/Step.lean ====
section
/-! DEFINITION. The step, and the placing of a table word where the step takes its next command. -/

namespace Sys2Proof.Machine

/-- One step of the block (00_scope.md glossary, "step"; R217). -/
def step (s : State) : Host.Outcome State Fault Refusal := oneStep s

/-- `s` with the instruction whose `nbits` table bits are `w` presented on the port for the next step. -/
def State.withFetchWord (s : State) (nbits w : Nat) : State := s.present (commandOfTableWord nbits w)

end Sys2Proof.Machine
end

