-- ==== Sys2Proof/Machine/HostSide.lean ====
section
/-! DEFINITION. What the spec gives the host, not the block: the pseudo-instructions of R82, the
Multi-Combine fold and its procedure (43_multi_combine.md R180 to R188), the signed-length duty of R216 and
R258, and the CRC-32 that the result guarantee speaks of (93_implementation_defined.md G1). No step of the
machine uses any of it. -/

namespace Sys2Proof.Machine

/-! ## Pseudo-instructions (R82) -/

/-- `combine3 C1, C2, N`. -/
def combine3 (c1 c2 n : Word) : List Instr := [.wrs .crc1 c1, .wrs .crc2 c2, .wrs .len n, .combine]

/-- `ldmat B, M`: 32 row writes in ascending order. -/
def ldmat (b : Bank) (M : Matrix) : List Instr := (List.finRange 32).map fun k : Fin 32 => .wrrow b k M[k]

/-- `rdmat B`: 32 row reads. -/
def rdmat (b : Bank) : List Instr := (List.finRange 32).map fun k : Fin 32 => .rdrow b k

/-- `apply B, V`. -/
def applyTo (b : Bank) (v : Word) : List Instr := [.wrs .crc1 v, .mvmul b]

/-- A sequence of instructions as the host presents it, each held until accepted (R246). -/
def presentAll (is : List Instr) : List (Option Command) := is.map fun i => some (encode i)

/-! ## Lengths -/

/-- The host's duty with signed numbers: its own "<= 0" test, and no truncation past 2^32 - 1 (R216, R258).
Of the two ways the spec leaves for each, the model writes 0, where the host might skip the COMBINE, and
refuses a longer length, where it might split the sequence: DESIGN CHOICE, log 14. -/
def hostLength (n : Int) : Option Word :=
  if n ≤ 0 then some 0#32 else if n < 2 ^ 32 then some (BitVec.ofInt 32 n) else none

/-! ## Multi-Combine -/

/-- One element as the caller hands it over: a field may be missing (R182). -/
structure PairArg where
  crc : Option Word
  len : Option Word
  deriving DecidableEq, Repr

/-- Why a host refuses a fold. -/
inductive HostRefusal where
  /-- Fewer than two elements (R181) or an incomplete one (R182). -/
  | invalidArgument
  /-- A true total of 2^64 or more, to which the spec gives no meaning (R188). -/
  | totalOverflow
  deriving DecidableEq, Repr

/-- R182: both fields of an element. -/
def PairArg.complete (p : PairArg) : Option (Word × Word) :=
  match p.crc, p.len with
  | some c, some n => some (c, n)
  | some _, none => none
  | none, some _ => none
  | none, none => none

/-- An element with both its fields. -/
def PairArg.ofPair (p : Word × Word) : PairArg := ⟨some p.1, some p.2⟩

/-- A fold that has passed the host's checks: its first pair and the others. -/
structure Fold where
  first : Word × Word
  rest : List (Word × Word)
  deriving DecidableEq, Repr

/-- One step of the fold on the running CRC (R180). -/
def foldCrc (acc : Word) (p : Word × Word) : Word := combine acc p.1 p.2

/-- `total <- total + zext_64(p.len)` (R184, R187). -/
def addLength (total : BitVec 64) (p : Word × Word) : BitVec 64 := total + p.2.zeroExtend 64

/-- `accCrc` of R180. -/
def Fold.crc (f : Fold) : Word := f.rest.foldl foldCrc f.first.1

/-- `accLen` of R180, the host's 64-bit variable `total` of R187. -/
def Fold.total (f : Fold) : BitVec 64 := f.rest.foldl addLength (f.first.2.zeroExtend 64)

/-- What the fold returns (R180, R184). -/
def Fold.result (f : Fold) : Word × BitVec 64 := (f.crc, f.total)

/-- The commands of R187's procedure, 1 + 3(m - 1) for m pairs. A pair with `len = 0` is issued like any
other, where R187 and R225 let the host skip it: DESIGN CHOICE, log 19. -/
def Fold.commands (f : Fold) : List Instr :=
  .wrs .crc1 f.first.1 :: f.rest.flatMap fun p => [.wrs .crc2 p.1, .wrs .len p.2, .combine]

/-- The true sum of the lengths (R183). -/
def trueTotal (ps : List (Word × Word)) : Nat := (ps.map fun p => p.2.toNat).sum

/-- The checks on complete pairs: at least two (R181), and a true total below 2^64 (R188). -/
def checkPairs (ps : List (Word × Word)) : Except HostRefusal Fold :=
  match ps with
  | [] => .error .invalidArgument
  | [_] => .error .invalidArgument
  | p :: q :: rest =>
    if trueTotal (p :: q :: rest) < 2 ^ 64 then .ok ⟨p, q :: rest⟩ else .error .totalOverflow

/-- Every check the host makes before the core is invoked (R181, R182, R186, R188). -/
def checkArgs (args : List PairArg) : Except HostRefusal Fold :=
  match args.mapM PairArg.complete with
  | none => .error .invalidArgument
  | some ps => checkPairs ps

/-- The fold of R180 over complete pairs. -/
def multiCombinePairs (ps : List (Word × Word)) : Except HostRefusal (Word × BitVec 64) :=
  (checkPairs ps).map Fold.result

/-- Multi-Combine as called (R184, R186). -/
def multiCombine (args : List PairArg) : Except HostRefusal (Word × BitVec 64) :=
  (checkArgs args).map Fold.result

/-- What the host of R187 issues for a call: nothing where a check fails. -/
def multiCombineCommands (args : List PairArg) : List Instr :=
  match checkArgs args with
  | .ok f => f.commands
  | .error _ => []

/-- `result` of R187 from the block's responses in order: `rsp_data` of the last COMBINE, which is the last
command, beside the host's total; none until every command is answered (log 14). -/
def multiCombineResult (args : List PairArg) (rs : List Response) :
    Except HostRefusal (Option (Word × BitVec 64)) :=
  (checkArgs args).map fun f =>
    if rs.length = f.commands.length then rs.getLast?.map fun r => (r.data, f.total) else none

/-! ## The external CRC-32 (G1, general knowledge, log 13) -/

/-- One bit of the bitwise CRC-32. -/
def crcBit (c : Word) : Word := (c >>> 1) ^^^ (if c.getLsbD 0 then Config.poly else 0#32)

/-- One byte: into the low 8 bits, then eight bit steps. -/
def crcByte (c : Word) (byte : BitVec 8) : Word := crcBit^[8] (c ^^^ byte.zeroExtend 32)

/-- CRC32 of a byte sequence. -/
def crc32 (bytes : List (BitVec 8)) : Word := bytes.foldl crcByte 0xFFFFFFFF#32 ^^^ 0xFFFFFFFF#32

end Sys2Proof.Machine
end

