-- ==== Sys2Proof/Safety.lean ====
section
/-! DEFINITION. The terms the claims use: what a run shows, when it is over, when it is safe, the engine's
invariants, and when two states agree on all that has been written. -/

namespace Sys2Proof

open Machine

/-! ## Runs -/

/-- The host keeps `rst = 0` in the next `k` steps. -/
def noReset (k : Nat) (s : State) : Bool := (s.rstIn.take k).all fun r => !r

/-- The responses of the next `k` steps in order: the observable result of a run (R246). -/
def responses : Nat → State → List Response
  | 0, _ => []
  | k + 1, s =>
    match step s with
    | .next t => t.rsp.toList ++ responses k t
    | .fault _ => []
    | .refused _ => []

/-- PH at the start of each of the next `k` steps. -/
def phaseTrace : Nat → State → List Phase
  | 0, _ => []
  | k + 1, s =>
    match step s with
    | .next t => s.ph :: phaseTrace k t
    | .fault _ => [s.ph]
    | .refused _ => [s.ph]

/-- The run is over: nothing is in flight and nothing more is presented (R246). -/
def RunOver (s : State) : Prop := s.ph = .idle ∧ ∀ c ∈ s.cmdIn, c = none

/-- No step since the last reset has depended on an unwritten element (R38). -/
abbrev Safe (s : State) : Prop := s.recorded = none

/-- The phases of a COMBINE whose length has `bits` bits, from the squaring `sq` on (R26). -/
def loopPhases : (bits : Nat) → (evenHalf : Bool) → List Phase
  | 0, _ => [.cFin]
  | bits + 1, true => .cSqe :: .cApe :: loopPhases bits false
  | bits + 1, false => .cSqo :: .cApo :: loopPhases bits true

/-- All the phases of a COMBINE accepted with a length of `bits` bits (R26, R167). -/
def combinePhases (bits : Nat) : List Phase := .cInit :: .cSq0 :: .cSq1 :: loopPhases bits true

/-- The squaring phases (R125). -/
def Machine.Phase.squares : Phase → Bool
  | .idle => false
  | .cInit => false
  | .cSq0 => true
  | .cSq1 => true
  | .cSqe => true
  | .cApe => false
  | .cSqo => true
  | .cApo => false
  | .cFin => false

/-! ## Invariants of the engine -/

/-- R164: before the last apply LEN is not 0, and at C_FIN it is 0. -/
def LengthInv (s : State) : Prop :=
  match s.ph with
  | .idle => True
  | .cInit => s.len ≠ 0#32
  | .cSq0 => s.len ≠ 0#32
  | .cSq1 => s.len ≠ 0#32
  | .cSqe => s.len ≠ 0#32
  | .cApe => s.len ≠ 0#32
  | .cSqo => s.len ≠ 0#32
  | .cApo => s.len ≠ 0#32
  | .cFin => s.len = 0#32

/-- R27: while a COMBINE is in flight DONE is 0. -/
def DoneInv (s : State) : Prop := s.ph ≠ .idle → s.done = false

/-- R142, R144, R145: which operators the banks hold in each phase. -/
def BankInv (s : State) : Prop :=
  match s.ph with
  | .idle => True
  | .cInit => True
  | .cSq0 => s.odd = op 0
  | .cSq1 => s.odd = op 0 ∧ s.even = op 1
  | .cSqe => ∃ j, s.odd = op (2 * j + 2) ∧ s.even = op (2 * j + 1)
  | .cApe => ∃ j, s.even = op (2 * j + 3) ∧ s.odd = op (2 * j + 2)
  | .cSqo => ∃ j, s.even = op (2 * j + 3) ∧ s.odd = op (2 * j + 2)
  | .cApo => ∃ j, s.odd = op (2 * j + 4) ∧ s.even = op (2 * j + 3)
  | .cFin => ∃ j, (s.even = op (j + 3) ∧ s.odd = op (j + 2)) ∨ (s.odd = op (j + 3) ∧ s.even = op (j + 2))

/-- R127: each squaring phase reads a bank that was written in full. -/
def MarksInv (s : State) : Prop :=
  match s.ph with
  | .idle => True
  | .cInit => True
  | .cSq0 => ∀ k, s.rowDefined .odd k = true
  | .cSq1 => ∀ b k, s.rowDefined b k = true
  | .cSqe => ∀ b k, s.rowDefined b k = true
  | .cApe => ∀ b k, s.rowDefined b k = true
  | .cSqo => ∀ b k, s.rowDefined b k = true
  | .cApo => ∀ b k, s.rowDefined b k = true
  | .cFin => ∀ b k, s.rowDefined b k = true

/-! ## Agreement on what is written -/

/-- Two states that differ at most in the values of unwritten data elements and in how many resets have
drawn free values: everything a host may know of them is the same (R38, R225). -/
structure AgreeOnWritten (s t : State) : Prop where
  ph : s.ph = t.ph
  done : s.done = t.done
  written : s.written = t.written
  recorded : s.recorded = t.recorded
  rstIn : s.rstIn = t.rstIn
  cmdIn : s.cmdIn = t.cmdIn
  rsp : s.rsp = t.rsp
  crc1 : s.written.crc1 = true → s.crc1 = t.crc1
  crc2 : s.written.crc2 = true → s.crc2 = t.crc2
  len : s.written.len = true → s.len = t.len
  row : ∀ b k, s.rowDefined b k = true → s.readRow b k = t.readRow b k

end Sys2Proof
end

