-- ==== Sys2Proof/Certificates/Slice0/Obligations.lean ====
section
/-! DEFINITION. The statements for the provers. A step with `rst = 0` is one with `s.rstNow = false`; the
block is idle when `s.ph = .idle`; the host presents `c` when `s.cmdIn` begins with `some c`. -/

open Sys2Proof Sys2Proof.Machine

/-! ## Encoding and decoding (30_encoding.md) -/

/-- Decoding the encoding of a legal instruction gives it back, every operand at every value, and a command
that ignores `wdata` decodes alike with any (R73 to R76, R75). -/
def Obligations.DecodeEncodeRoundTrip : Prop :=
  ∀ i : Instr, i.WellFormed →
    decode (encode i) = .ok i ∧ ∀ v : Word, decode ⟨(encode i).cmd, v⟩ = .ok (i.withData v)

/-- Each legal word stands for one legal instruction, whose encoding is that word (R76, R80). -/
def Obligations.LegalWordEncodesBack : Prop :=
  ∀ (c : Command) (i : Instr), decode c = .ok i →
    i.WellFormed ∧ (encode i).cmd = c.cmd ∧ i.withData c.wdata = i

/-- R77: opcode range first, then the must-be-zero bits of the opcode's format, then WRS to selector 3,
else legal; so every word is classified. -/
def Obligations.DecodeOrder : Prop :=
  ∀ c : Command,
    let op := (c.cmd >>> 12).toNat
    let zeros : BitVec 16 :=
      [0x0FFF#16, 0x0FFC#16, 0x0FFC#16, 0x0EE0#16, 0x0EE0#16, 0x0FFF#16, 0x0EFF#16, 0x0EFF#16, 0x0FFF#16].getD op 0
    (9 ≤ op → decode c = .error .eOpcode) ∧
    (op < 9 → c.cmd &&& zeros ≠ 0 → decode c = .error .eField) ∧
    (op = 1 → c.cmd &&& zeros = 0 → c.cmd &&& 3 = 3 → decode c = .error .eAccess) ∧
    (op < 9 → c.cmd &&& zeros = 0 → ¬ (op = 1 ∧ c.cmd &&& 3 = 3) →
      ∃ i : Instr, decode c = .ok i ∧ i.opcode.code.toNat = op)

/-- The match and mask rows are disjoint and agree with the decoder: a legal word is a word of the row of its
own opcode and of no other, `0x1003` only of WRS, and a word rejected otherwise of no row (R76). -/
def Obligations.TableAgreesWithDecoder : Prop :=
  ∀ c : Command,
    ((opcodeTable.filter fun row => row.accepts c.cmd).map fun row => row.opcode) =
      match decode c with
      | .ok i => [i.opcode]
      | .error .eAccess => [.wrs]
      | .error .eField => []
      | .error .eOpcode => []

/-- R214: `0x1003` is the one word that raises E_ACCESS; presented to the idle block it is refused, and DONE,
hence STATUS, stays. -/
def Obligations.AccessErrorIsOneWord : Prop :=
  (∀ c : Command, decode c = .error .eAccess ↔ c.cmd = 0x1003#16) ∧
  ∀ (s : State) (v : Word) (rest : List (Option Command)),
    s.rstNow = false → s.ph = .idle → s.cmdIn = some ⟨0x1003#16, v⟩ :: rest →
    ∃ t, step s = .next t ∧ t.rsp = some ⟨.eAccess, 0#32⟩ ∧ t.done = s.done ∧ t.status = s.status

/-- Words written out from the spec's encodings and tables decode to what they stand for (R76, R81, and the
rejected words of R212, R213, R217). -/
def Obligations.SpecWordsDecode : Prop :=
  decode ⟨0b0000000000000000, 7⟩ = .ok .nop ∧
  decode ⟨0b0001000000000010, 0xFFFFFFFF⟩ = .ok (.wrs .len 0xFFFFFFFF) ∧
  decode ⟨0b0010000000000011, 7⟩ = .ok (.rds .status) ∧
  decode ⟨0b0011000100011111, 0x12345678⟩ = .ok (.wrrow .odd 31 0x12345678) ∧
  decode ⟨0b0100000000000101, 7⟩ = .ok (.rdrow .even 5) ∧
  decode ⟨0b0101000000000000, 7⟩ = .ok .minit ∧
  decode ⟨0b0110000100000000, 7⟩ = .ok (.msquare .odd) ∧
  decode ⟨0b0111000000000000, 7⟩ = .ok (.mvmul .even) ∧
  decode ⟨0b1000000000000000, 7⟩ = .ok .combine ∧
  decode ⟨0x9003, 7⟩ = .error .eOpcode ∧ decode ⟨0x1007, 7⟩ = .error .eField ∧
  decode ⟨0x8100, 7⟩ = .error .eField ∧ decode ⟨0x1003, 7⟩ = .error .eAccess

/-! ## The step (60_exceptions.md R217, 70_reset_and_hazards.md) -/

/-- A command on the port of the idle block, without reset, is decoded and executed on the state from which
it has been taken, with the samples of the step passed on and no response standing yet (R71, R77). -/
def Obligations.StepRunsDecodedInstruction : Prop :=
  ∀ (s : State) (c : Command) (rest : List (Option Command)) (i : Instr),
    s.rstNow = false → s.ph = .idle → s.cmdIn = some c :: rest → decode c = .ok i →
    step s = exec i { s with rstIn := s.rstIn.tail, cmdIn := rest, rsp := none }

/-- R215: a rejected command changes nothing but is answered `(code, 0)`, and the block stays idle. -/
def Obligations.RejectionChangesNothing : Prop :=
  ∀ (s : State) (c : Command) (rest : List (Option Command)) (e : Reject),
    s.rstNow = false → s.ph = .idle → s.cmdIn = some c :: rest → decode c = .error e →
    ∃ err : ErrCode,
      step s = .next { s with rstIn := s.rstIn.tail, cmdIn := rest, rsp := some ⟨err, 0#32⟩ } ∧
      err.code = (match e with | .eOpcode => 1#2 | .eField => 2#2 | .eAccess => 3#2)

/-- R253: a command presented while busy is neither executed nor rejected, stays presented, and makes no
difference to what the engine does. -/
def Obligations.CommandsWaitWhileBusy : Prop :=
  ∀ (s : State) (c : Command) (rest : List (Option Command)),
    s.rstNow = false → s.ph ≠ .idle → s.cmdIn = some c :: rest →
    ∃ t, step s = .next t ∧ t.cmdIn = some c :: rest ∧ step { s with cmdIn := [] } = .next { t with cmdIn := [] }

/-- With nothing presented the idle block keeps all its state (R163, R227). -/
def Obligations.IdleBlockKeepsState : Prop :=
  ∀ s : State, s.rstNow = false → s.ph = .idle → s.presented = none →
    step s = .next { s with rstIn := s.rstIn.tail, cmdIn := s.cmdIn.tail, rsp := none }

/-- R240: a reset step, whatever the state and the port: control state defined, every data element a new
free value and unwritten, no command accepted, no response; then idle and ready. -/
def Obligations.ResetStep : Prop :=
  ∀ s : State, s.rstNow = true →
    s.cmdReady = false ∧
    ∃ t, step s = .next t ∧ t.ph = .idle ∧ t.done = false ∧ t.rsp = none ∧ t.recorded = none ∧
      t.crc1 = Config.resetData s.draw .crc1 ∧ t.crc2 = Config.resetData s.draw .crc2 ∧
      t.len = Config.resetData s.draw .len ∧
      (∀ b k, t.readRow b k = Config.resetData s.draw (.row b k)) ∧
      t.written.crc1 = false ∧ t.written.crc2 = false ∧ t.written.len = false ∧
      (∀ b k, t.rowDefined b k = false) ∧
      (∀ c rest, s.cmdIn = some c :: rest → t.cmdIn = some c :: rest) ∧
      (t.rstNow = false → t.cmdReady = true)

/-- R241: a reset aborts the COMBINE in flight; if the host presents nothing more, no response ever comes. -/
def Obligations.ResetAbortsCombine : Prop :=
  ∀ s : State, s.rstNow = true → (∀ c ∈ s.cmdIn, c = none) → ∀ k, responses k s = []

/-- R36, R38: the control state right after reset, and nothing written, no fault recorded. -/
def Obligations.StateAfterReset : Prop :=
  State.reset.ph = .idle ∧ State.reset.done = false ∧ State.reset.busy = false ∧
  State.reset.donePin = false ∧ State.reset.status = 0#32 ∧ State.reset.rsp = none ∧
  State.reset.cmdReady = true ∧ Safe State.reset ∧
  State.reset.written.crc1 = false ∧ State.reset.written.crc2 = false ∧ State.reset.written.len = false ∧
  ∀ b k, State.reset.rowDefined b k = false

/-- Every step answers; it emits a response exactly when it accepts a command other than a COMBINE with
LEN != 0, or runs C_FIN; and an error response carries 0 (R72, R210). -/
def Obligations.OneResponsePerCommand : Prop :=
  ∀ s : State, ∃ t, step s = .next t ∧
    (t.rspValid = true ↔ s.rstNow = false ∧
      (s.ph = .cFin ∨
        (s.ph = .idle ∧ ∃ c, s.presented = some c ∧ ¬ (decode c = .ok .combine ∧ s.len ≠ 0#32)))) ∧
    ∀ r, t.rsp = some r → r.err ≠ .ok → r.data = 0#32

/-! ## The instructions (40, 41, 42, 44) -/

/-- R190: NOP answers `(OK, 0)` and changes nothing. -/
def Obligations.NopOnlyAnswers : Prop :=
  ∀ s : State, exec .nop s = .next { s with rsp := some ⟨.ok, 0#32⟩ }

/-- R191: WRS writes all 32 bits of the one selected register and answers `(OK, 0)`; STATUS is refused. -/
def Obligations.WrsWritesSelectedRegister : Prop :=
  ∀ (s : State) (v : Word),
    (∃ t, exec (.wrs .crc1 v) s = .next t ∧ t.crc1 = v ∧ t.written.crc1 = true ∧ t.rsp = some ⟨.ok, 0#32⟩) ∧
    (∃ t, exec (.wrs .crc2 v) s = .next t ∧ t.crc2 = v ∧ t.written.crc2 = true ∧ t.rsp = some ⟨.ok, 0#32⟩) ∧
    (∃ t, exec (.wrs .len v) s = .next t ∧ t.len = v ∧ t.written.len = true ∧ t.rsp = some ⟨.ok, 0#32⟩) ∧
    exec (.wrs .status v) s = .next { s with rsp := some ⟨.eAccess, 0#32⟩ }

/-- R192, R29: RDS answers with the selected register, STATUS being DONE in bit 0 and zeros above. -/
def Obligations.RdsAnswersSelectedRegister : Prop :=
  ∀ s : State,
    (∃ t, exec (.rds .crc1) s = .next t ∧ t.rsp = some ⟨.ok, s.crc1⟩) ∧
    (∃ t, exec (.rds .crc2) s = .next t ∧ t.rsp = some ⟨.ok, s.crc2⟩) ∧
    (∃ t, exec (.rds .len) s = .next t ∧ t.rsp = some ⟨.ok, s.len⟩) ∧
    (∃ t, exec (.rds .status) s = .next t ∧ t.done = s.done ∧
      t.rsp = some ⟨.ok, if s.done then 0x00000001#32 else 0x00000000#32⟩)

/-- R193, R194: RDROW answers with the row; WRROW writes the one row and answers `(OK, 0)`; an RDROW after it
answers `(OK, V)` for that row and the old row for every other. -/
def Obligations.RowsReadAndWritten : Prop :=
  ∀ s : State,
    (∀ k : Fin 32, ∃ t, exec (.rdrow .even k) s = .next t ∧ t.rsp = some ⟨.ok, s.even[k]⟩) ∧
    (∀ k : Fin 32, ∃ t, exec (.rdrow .odd k) s = .next t ∧ t.rsp = some ⟨.ok, s.odd[k]⟩) ∧
    ∀ (b c : Bank) (k j : Fin 32) (v : Word),
      ∃ t, exec (.wrrow b k v) s = .next t ∧ t.rsp = some ⟨.ok, 0#32⟩ ∧ t.rowDefined b k = true ∧
      ∃ u, exec (.rdrow c j) t = .next u ∧
        u.rsp = some ⟨.ok, if c = b ∧ j = k then v else (s.bank c)[j]⟩

/-- R153: MINIT leaves the base operator in ODD, all rows written, and answers `(OK, 0)`. -/
def Obligations.MinitLoadsBaseOperator : Prop :=
  ∀ s : State, ∃ t, exec .minit s = .next t ∧ t.rsp = some ⟨.ok, 0#32⟩ ∧
    t.odd[0] = 0xEDB88320#32 ∧ (∀ k : Fin 32, k ≠ 0 → t.odd[k] = 1#32 <<< (k.val - 1)) ∧
    ∀ k, t.rowDefined .odd k = true

/-- R126: MSQUARE writes row i of the destination with the product of the whole source and its row i, leaves
the source, marks the destination written, and answers `(OK, 0)`. -/
def Obligations.MsquareSquaresOtherBank : Prop :=
  ∀ s : State,
    (∃ t, exec (.msquare .even) s = .next t ∧ t.rsp = some ⟨.ok, 0#32⟩ ∧ t.odd = s.odd ∧
      (∀ i : Fin 32, t.even[i] = mvm s.odd s.odd[i]) ∧ ∀ k, t.rowDefined .even k = true) ∧
    (∃ t, exec (.msquare .odd) s = .next t ∧ t.rsp = some ⟨.ok, 0#32⟩ ∧ t.even = s.even ∧
      (∀ i : Fin 32, t.odd[i] = mvm s.even s.even[i]) ∧ ∀ k, t.rowDefined .odd k = true)

/-- R107, R100: MVMUL puts the product of the bank and the old CRC1 into CRC1 and into the response; bit j of
it is the parity of the set bits i of the old CRC1 whose row has bit j set. -/
def Obligations.MvmulMultipliesInPlace : Prop :=
  ∀ (s : State) (b : Bank), ∃ t, exec (.mvmul b) s = .next t ∧ t.written.crc1 = true ∧
    t.rsp = some ⟨.ok, t.crc1⟩ ∧
    ∀ j : Fin 32, t.crc1.getLsbD j =
      decide (((List.finRange 32).filter fun i : Fin 32 =>
        s.crc1.getLsbD i && ((s.bank b)[i]).getLsbD j).length % 2 = 1)

/-- R154: COMBINE with LEN = 0 sets DONE and answers `(OK, CRC1)`; with LEN != 0 it clears DONE and starts the
engine, and no response is emitted yet. -/
def Obligations.CombineAcceptance : Prop :=
  ∀ s : State,
    (s.len = 0#32 → ∃ t, exec .combine s = .next t ∧ t.done = true ∧ t.ph = s.ph ∧
      t.rsp = some ⟨.ok, s.crc1⟩) ∧
    (s.len ≠ 0#32 → ∃ t, exec .combine s = .next t ∧ t.done = false ∧ t.ph = .cInit ∧ t.rsp = s.rsp)

/-- Where the spec's model faults on an unwritten element, this one records it (log 2), and only there:
R38's list of which command or phase depends on which elements, with R108, R127, R168 (the squaring phases are
SquaringPhasesReadWrittenRows). -/
def Obligations.UnwrittenUseIsRecorded : Prop :=
  (∀ (i : Instr) (s t : State), exec i s = .next t →
    (Safe t ↔ Safe s ∧
      match i with
      | .nop => True
      | .wrs _ _ => True
      | .rds .crc1 => s.written.crc1 = true
      | .rds .crc2 => s.written.crc2 = true
      | .rds .len => s.written.len = true
      | .rds .status => True
      | .wrrow _ _ _ => True
      | .rdrow b k => s.rowDefined b k = true
      | .minit => True
      | .msquare .even => ∀ k, s.rowDefined .odd k = true
      | .msquare .odd => ∀ k, s.rowDefined .even k = true
      | .mvmul b => s.written.crc1 = true ∧ ∀ k : Fin 32, s.crc1.getLsbD k = true → s.rowDefined b k = true
      | .combine => s.written.len = true ∧ (s.len = 0#32 → s.written.crc1 = true))) ∧
  ∀ s : State, s.rstNow = false →
    (s.ph = .cApe → ∃ t, step s = .next t ∧ (Safe t ↔ Safe s ∧ s.written.len = true ∧
      (s.len.getLsbD 0 = true → s.written.crc1 = true ∧
        ∀ k : Fin 32, s.crc1.getLsbD k = true → s.rowDefined .even k = true))) ∧
    (s.ph = .cApo → ∃ t, step s = .next t ∧ (Safe t ↔ Safe s ∧ s.written.len = true ∧
      (s.len.getLsbD 0 = true → s.written.crc1 = true ∧
        ∀ k : Fin 32, s.crc1.getLsbD k = true → s.rowDefined .odd k = true))) ∧
    (s.ph = .cFin → ∃ t, step s = .next t ∧
      (Safe t ↔ Safe s ∧ s.written.crc1 = true ∧ s.written.crc2 = true))

/-- R105 (h), R108: MVMUL does not see the rows at positions where CRC1 has a zero. -/
def Obligations.MvmulIgnoresUnselectedRows : Prop :=
  ∀ (s s' : State) (b : Bank), s.crc1 = s'.crc1 →
    (∀ k : Fin 32, s.crc1.getLsbD k = true → s.readRow b k = s'.readRow b k) →
    ∃ t t', exec (.mvmul b) s = .next t ∧ exec (.mvmul b) s' = .next t' ∧ t.crc1 = t'.crc1 ∧ t.rsp = t'.rsp

/-! ## Frames: what an instruction leaves unchanged (R24). There is no memory (R50) and no program counter. -/

/-- NOP, RDS and RDROW change no state, only the response and the model's fault record. -/
def Obligations.ReadersFrame : Prop :=
  ∀ (i : Instr) (s t : State),
    (i = .nop ∨ (∃ r, i = .rds r) ∨ ∃ b k, i = .rdrow b k) → exec i s = .next t →
    t.crc1 = s.crc1 ∧ t.crc2 = s.crc2 ∧ t.len = s.len ∧ t.even = s.even ∧ t.odd = s.odd ∧ t.ph = s.ph ∧
    t.done = s.done ∧ t.written = s.written ∧ t.draw = s.draw ∧ t.rstIn = s.rstIn ∧ t.cmdIn = s.cmdIn

/-- WRS changes only the selected register with its mark, and the response; WRROW only the one row with its
mark, and the response. -/
def Obligations.AccessWritersFrame : Prop :=
  (∀ (r : Scalar) (v : Word) (s t : State), exec (.wrs r v) s = .next t →
    (r ≠ .crc1 → t.crc1 = s.crc1 ∧ t.written.crc1 = s.written.crc1) ∧
    (r ≠ .crc2 → t.crc2 = s.crc2 ∧ t.written.crc2 = s.written.crc2) ∧
    (r ≠ .len → t.len = s.len ∧ t.written.len = s.written.len) ∧
    t.even = s.even ∧ t.odd = s.odd ∧ t.ph = s.ph ∧ t.done = s.done ∧ t.written.even = s.written.even ∧
    t.written.odd = s.written.odd ∧ t.recorded = s.recorded ∧ t.draw = s.draw ∧ t.rstIn = s.rstIn ∧
    t.cmdIn = s.cmdIn) ∧
  (∀ (b : Bank) (k : Fin 32) (v : Word) (s t : State), exec (.wrrow b k v) s = .next t →
    (∀ c j, ¬ (c = b ∧ j = k) → t.readRow c j = s.readRow c j ∧ t.rowDefined c j = s.rowDefined c j) ∧
    t.crc1 = s.crc1 ∧ t.crc2 = s.crc2 ∧ t.len = s.len ∧ t.ph = s.ph ∧ t.done = s.done ∧
    t.written.crc1 = s.written.crc1 ∧ t.written.crc2 = s.written.crc2 ∧ t.written.len = s.written.len ∧
    t.recorded = s.recorded ∧ t.draw = s.draw ∧ t.rstIn = s.rstIn ∧ t.cmdIn = s.cmdIn)

/-- MINIT (destination ODD) and MSQUARE d (destination d) change only the destination bank with its marks, the
response, and for MSQUARE the model's fault record. -/
def Obligations.BankWritersFrame : Prop :=
  ∀ (i : Instr) (d : Bank) (s t : State), (i = .minit ∧ d = .odd) ∨ i = .msquare d → exec i s = .next t →
    (∀ c k, c ≠ d → t.readRow c k = s.readRow c k ∧ t.rowDefined c k = s.rowDefined c k) ∧
    t.crc1 = s.crc1 ∧ t.crc2 = s.crc2 ∧ t.len = s.len ∧ t.ph = s.ph ∧ t.done = s.done ∧
    t.written.crc1 = s.written.crc1 ∧ t.written.crc2 = s.written.crc2 ∧ t.written.len = s.written.len ∧
    (i = .minit → t.recorded = s.recorded) ∧ t.draw = s.draw ∧ t.rstIn = s.rstIn ∧ t.cmdIn = s.cmdIn

/-- MVMUL changes only CRC1 with its mark, the response and the model's fault record. -/
def Obligations.MvmulFrame : Prop :=
  ∀ (b : Bank) (s t : State), exec (.mvmul b) s = .next t →
    t.crc2 = s.crc2 ∧ t.len = s.len ∧ t.even = s.even ∧ t.odd = s.odd ∧ t.ph = s.ph ∧ t.done = s.done ∧
    t.written = { s.written with crc1 := true } ∧ t.draw = s.draw ∧ t.rstIn = s.rstIn ∧ t.cmdIn = s.cmdIn

/-- The acceptance of a COMBINE changes only DONE, PH when LEN != 0, the response when LEN = 0, and the model's
fault record. -/
def Obligations.CombineAcceptanceFrame : Prop :=
  ∀ s t : State, exec .combine s = .next t →
    t.crc1 = s.crc1 ∧ t.crc2 = s.crc2 ∧ t.len = s.len ∧ t.even = s.even ∧ t.odd = s.odd ∧
    t.written = s.written ∧ t.draw = s.draw ∧ t.rstIn = s.rstIn ∧ t.cmdIn = s.cmdIn ∧
    (s.len = 0#32 → t.ph = s.ph) ∧ (s.len ≠ 0#32 → t.rsp = s.rsp)

/-! ## Whole-machine rules -/

/-- R22: without a reset, CRC2 is written by WRS with selector 1 and by nothing else. -/
def Obligations.Crc2OnlyByWrs : Prop :=
  ∀ s t : State, step s = .next t → s.rstNow = false → t.crc2 ≠ s.crc2 →
    s.ph = .idle ∧ ∃ c, s.presented = some c ∧ decode c = .ok (.wrs .crc2 t.crc2)

/-- R27: DONE is set by C_FIN and by a COMBINE accepted with LEN = 0, cleared by a COMBINE accepted with
LEN != 0 and by reset, and touched by nothing else; RDS of STATUS and the pin `done` show it. -/
def Obligations.DoneFlagRule : Prop :=
  ∀ s t : State, step s = .next t →
    (s.rstNow = true → t.done = false) ∧
    (s.rstNow = false → s.ph = .cFin → t.done = true) ∧
    (s.rstNow = false → s.ph = .idle → (∃ c, s.presented = some c ∧ decode c = .ok .combine) →
      (t.done = true ↔ s.len = 0#32)) ∧
    (s.rstNow = false → s.ph ≠ .cFin →
      ¬ (s.ph = .idle ∧ ∃ c, s.presented = some c ∧ decode c = .ok .combine) → t.done = s.done) ∧
    t.donePin = t.done ∧ t.status.getLsbD 0 = t.done

/-- R31: without a reset, a row changes only by the phase or the command that writes it. -/
def Obligations.RowsOnlyByTheirWriters : Prop :=
  ∀ (s t : State) (b : Bank) (k : Fin 32), step s = .next t → s.rstNow = false →
    t.readRow b k ≠ s.readRow b k →
    (b = .odd ∧ (s.ph = .cInit ∨ s.ph = .cSq1 ∨ s.ph = .cSqo)) ∨
    (b = .even ∧ (s.ph = .cSq0 ∨ s.ph = .cSqe)) ∨
    (s.ph = .idle ∧ ∃ c, s.presented = some c ∧
      ((decode c = .ok .minit ∧ b = .odd) ∨ decode c = .ok (.msquare b) ∨
        decode c = .ok (.wrrow b k (t.readRow b k))))

/-! ## The engine (42_crc32_combine_engine.md) -/

/-- R164, the rows of the transition table. -/
def Obligations.PhaseTransitions : Prop :=
  ∀ s : State, ∃ t, step s = .next t ∧
    (s.rstNow = true → t.ph = .idle) ∧
    (s.rstNow = false →
      (s.ph = .idle → s.presented.map (·.cmd) = some 0x8000#16 → s.len ≠ 0#32 → t.ph = .cInit) ∧
      (s.ph = .idle → ¬ (s.presented.map (·.cmd) = some 0x8000#16 ∧ s.len ≠ 0#32) → t.ph = .idle) ∧
      (s.ph = .cInit → t.ph = .cSq0) ∧ (s.ph = .cSq0 → t.ph = .cSq1) ∧ (s.ph = .cSq1 → t.ph = .cSqe) ∧
      (s.ph = .cSqe → t.ph = .cApe) ∧
      (s.ph = .cApe → t.ph = if s.len.toNat ≤ 1 then .cFin else .cSqo) ∧
      (s.ph = .cSqo → t.ph = .cApo) ∧
      (s.ph = .cApo → t.ph = if s.len.toNat ≤ 1 then .cFin else .cSqe) ∧
      (s.ph = .cFin → t.ph = .idle))

/-- R155, R156, R157: the set-up phases, each the whole of what its step does. -/
def Obligations.SetupPhases : Prop :=
  ∀ s : State, s.rstNow = false →
    (s.ph = .cInit → ∃ t, step s = .next t ∧ t.odd[0] = 0xEDB88320#32 ∧
      (∀ k : Fin 32, k ≠ 0 → t.odd[k] = 1#32 <<< (k.val - 1)) ∧
      t = { s with ph := .cSq0, odd := t.odd, written := t.written, rstIn := s.rstIn.tail, cmdIn := t.cmdIn, rsp := none }) ∧
    (s.ph = .cSq0 → ∃ t, step s = .next t ∧ t.even = square s.odd ∧
      t = { s with ph := .cSq1, even := t.even, written := t.written, recorded := t.recorded,
                   rstIn := s.rstIn.tail, cmdIn := t.cmdIn, rsp := none }) ∧
    (s.ph = .cSq1 → ∃ t, step s = .next t ∧ t.odd = square s.even ∧
      t = { s with ph := .cSqe, odd := t.odd, written := t.written, recorded := t.recorded,
                   rstIn := s.rstIn.tail, cmdIn := t.cmdIn, rsp := none })

/-- R158, R160: the squarings of the loop; they do not look at LEN. -/
def Obligations.LoopSquaringPhases : Prop :=
  ∀ s : State, s.rstNow = false →
    (s.ph = .cSqe → ∃ t, step s = .next t ∧ t.even = square s.odd ∧
      t = { s with ph := .cApe, even := t.even, written := t.written, recorded := t.recorded,
                   rstIn := s.rstIn.tail, cmdIn := t.cmdIn, rsp := none }) ∧
    (s.ph = .cSqo → ∃ t, step s = .next t ∧ t.odd = square s.even ∧
      t = { s with ph := .cApo, odd := t.odd, written := t.written, recorded := t.recorded,
                   rstIn := s.rstIn.tail, cmdIn := t.cmdIn, rsp := none })

/-- R159, R161: the apply phases: conditional product, shift, stop test on the shifted value. -/
def Obligations.ApplyPhases : Prop :=
  ∀ s : State, s.rstNow = false →
    (s.ph = .cApe → ∃ t, step s = .next t ∧ t.len = s.len >>> 1 ∧
      t.crc1 = (if s.len.getLsbD 0 = true then mvm s.even s.crc1 else s.crc1) ∧
      t.ph = (if s.len >>> 1 = 0#32 then .cFin else .cSqo) ∧
      t = { s with ph := t.ph, crc1 := t.crc1, len := t.len, written := t.written, recorded := t.recorded,
                   rstIn := s.rstIn.tail, cmdIn := t.cmdIn, rsp := none }) ∧
    (s.ph = .cApo → ∃ t, step s = .next t ∧ t.len = s.len >>> 1 ∧
      t.crc1 = (if s.len.getLsbD 0 = true then mvm s.odd s.crc1 else s.crc1) ∧
      t.ph = (if s.len >>> 1 = 0#32 then .cFin else .cSqe) ∧
      t = { s with ph := t.ph, crc1 := t.crc1, len := t.len, written := t.written, recorded := t.recorded,
                   rstIn := s.rstIn.tail, cmdIn := t.cmdIn, rsp := none })

/-- R162: C_FIN XORs CRC2 in, sets DONE, answers with the result, and from then on `busy = 0`. -/
def Obligations.FinalPhase : Prop :=
  ∀ s : State, s.rstNow = false → s.ph = .cFin →
    ∃ t, step s = .next t ∧ t.busy = false ∧
      t = { s with crc1 := s.crc1 ^^^ s.crc2, done := true, ph := .idle, written := t.written,
                   recorded := t.recorded, rstIn := s.rstIn.tail, cmdIn := t.cmdIn,
                   rsp := some ⟨.ok, s.crc1 ^^^ s.crc2⟩ }

/-- R165, the refinement: the one response of a COMBINE and the value of CRC1 when PH next returns to IDLE are
`combine` of the three operands at acceptance, whatever the banks, DONE and the port hold. -/
def Obligations.CombineRefinesFunction : Prop :=
  ∀ s t : State, exec .combine s = .next t →
    (s.len = 0#32 → t.crc1 = combine s.crc1 s.crc2 s.len ∧
      t.rsp = some ⟨.ok, combine s.crc1 s.crc2 s.len⟩) ∧
    (s.len ≠ 0#32 → noReset (4 + 2 * bitlen s.len.toNat) t = true →
      (∃ u, Sys2Proof.core.run (4 + 2 * bitlen s.len.toNat) t = .next u ∧ u.ph = .idle ∧
        u.crc1 = combine s.crc1 s.crc2 s.len) ∧
      (∀ j < 4 + 2 * bitlen s.len.toNat, ∀ u : State, Sys2Proof.core.run j t = .next u → u.ph ≠ .idle) ∧
      responses (4 + 2 * bitlen s.len.toNat) t = [⟨.ok, combine s.crc1 s.crc2 s.len⟩])

/-- R166: the end state of a COMBINE, the banks by the number of bits of the length. -/
def Obligations.CombineEndState : Prop :=
  ∀ s t : State, exec .combine s = .next t →
    (s.len = 0#32 → t.crc1 = s.crc1 ∧ t.crc2 = s.crc2 ∧ t.len = 0#32 ∧ t.even = s.even ∧ t.odd = s.odd ∧
      t.ph = s.ph ∧ t.done = true) ∧
    (s.len ≠ 0#32 → noReset (4 + 2 * bitlen s.len.toNat) t = true →
      ∃ u, Sys2Proof.core.run (4 + 2 * bitlen s.len.toNat) t = .next u ∧
        u.crc1 = combine s.crc1 s.crc2 s.len ∧ u.crc2 = s.crc2 ∧ u.len = 0#32 ∧ u.ph = .idle ∧
        u.done = true ∧
        u.even = (if bitlen s.len.toNat % 2 = 1 then op (bitlen s.len.toNat + 2)
          else op (bitlen s.len.toNat + 1)) ∧
        u.odd = (if bitlen s.len.toNat % 2 = 1 then op (bitlen s.len.toNat + 1)
          else op (bitlen s.len.toNat + 2)) ∧
        ∀ b k, u.rowDefined b k = true)

/-- R26, R167: the phases of a COMBINE in order, `4 + 2 * bitlen(n)` of them, of which `2 + bitlen(n)` are
squarings. -/
def Obligations.CombinePhaseSequence : Prop :=
  ∀ s t : State, exec .combine s = .next t → s.len ≠ 0#32 →
    noReset (4 + 2 * bitlen s.len.toNat) t = true →
    phaseTrace (4 + 2 * bitlen s.len.toNat) t = combinePhases (bitlen s.len.toNat) ∧
    (phaseTrace (4 + 2 * bitlen s.len.toNat) t).countP (fun p => p.squares) = 2 + bitlen s.len.toNat

/-- R245: from any state, without reset, PH reaches IDLE after at most 68 further steps. -/
def Obligations.EngineReturnsToIdle : Prop :=
  ∀ s : State, noReset 68 s = true →
    ∃ k ≤ 68, ∃ t : State, Sys2Proof.core.run k s = .next t ∧ t.ph = .idle

/-! ## Invariants -/

/-- Every step keeps R164's invariant on LEN and R27's on DONE. -/
def Obligations.StepKeepsLengthAndDone : Prop :=
  ∀ s t : State, LengthInv s → DoneInv s → step s = .next t → LengthInv t ∧ DoneInv t

/-- Every step keeps the operators that R142, R144 and R145 put into the banks phase by phase. -/
def Obligations.StepKeepsBankOperators : Prop :=
  ∀ s t : State, BankInv s → step s = .next t → BankInv t

/-- R127: every step keeps the rows of the banks written that the coming squaring phase reads, and under that
a squaring phase records no fault. -/
def Obligations.SquaringPhasesReadWrittenRows : Prop :=
  ∀ s t : State, MarksInv s → step s = .next t →
    MarksInv t ∧ (s.rstNow = false → s.ph.squares = true → t.recorded = s.recorded)

/-- The invariants hold right after reset. -/
def Obligations.InvariantsHoldAtReset : Prop :=
  LengthInv State.reset ∧ DoneInv State.reset ∧ BankInv State.reset ∧ MarksInv State.reset

/-- R37, R38: what unwritten elements hold never shows. Two states that agree on all that is written stay so,
responses included, through any step after which no fault is recorded; a reset's new free values included. -/
def Obligations.UnwrittenValuesNeverShow : Prop :=
  ∀ s s' t : State, AgreeOnWritten s s' → step s = .next t → Safe t →
    ∃ t', step s' = .next t' ∧ AgreeOnWritten t t'

/-! ## The functions (Layer F) -/

/-- R100: the product bit by bit, and 0 for the vector 0. -/
def Obligations.ProductBitByBit : Prop :=
  ∀ (M : Matrix) (v : Word), mvm M 0#32 = 0#32 ∧
    ∀ j : Fin 32, (mvm M v).getLsbD j =
      decide (((List.finRange 32).filter fun i : Fin 32 => v.getLsbD i && (M[i]).getLsbD j).length % 2 = 1)

/-- R102: the document's loop computes the closed form, already with `bitlen(v)` iterations. -/
def Obligations.LoopComputesProduct : Prop :=
  ∀ (M : Matrix) (v : Word) (fuel : Nat), bitlen v.toNat ≤ fuel → mvmLoop M fuel 0 v 0#32 = mvm M v

/-- R105: the laws (a) to (h) of the product. -/
def Obligations.ProductLaws : Prop :=
  (∀ M : Matrix, mvm M 0#32 = 0#32) ∧
  (∀ (M : Matrix) (i : Fin 32), mvm M (1#32 <<< i.val) = M[i]) ∧
  (∀ (M : Matrix) (a b : Word), mvm M (a ^^^ b) = mvm M a ^^^ mvm M b) ∧
  (∀ (M K N : Matrix) (a : Word), (∀ i : Fin 32, N[i] = M[i] ^^^ K[i]) → mvm N a = mvm M a ^^^ mvm K a) ∧
  (∀ a : Word, mvm (Vector.ofFn fun i : Fin 32 => 1#32 <<< i.val) a = a) ∧
  (∀ a : Word, mvm (Vector.replicate 32 0#32) a = 0#32) ∧
  (∀ M : Matrix, mvm M 0xFFFFFFFF#32 = xorAll M.toList) ∧
  (∀ (M N : Matrix) (a : Word), (∀ i : Fin 32, a.getLsbD i = true → M[i] = N[i]) → mvm M a = mvm N a)

/-- R121: the square applies the operator twice. -/
def Obligations.SquareAppliesTwice : Prop :=
  ∀ (S : Matrix) (v : Word), mvm (square S) v = mvm S (mvm S v)

/-- R124: the laws (a) to (f) of the squaring. -/
def Obligations.SquareLaws : Prop :=
  square (Vector.ofFn fun i : Fin 32 => 1#32 <<< i.val) = (Vector.ofFn fun i : Fin 32 => 1#32 <<< i.val) ∧
  square (Vector.replicate 32 0#32) = Vector.replicate 32 0#32 ∧
  (∀ (S T : Matrix) (i : Fin 32), S[i] = T[i] → (∀ j : Fin 32, (S[i]).getLsbD j = true → S[j] = T[j]) →
    (square S)[i] = (square T)[i]) ∧
  (∀ (S : Matrix) (k : Nat) (v : Word), mvm (square^[k] S) v = (mvm S)^[2 ^ k] v) ∧
  (∀ (S : Matrix) (n : Nat), (∀ v, mvm S v = (mvm base)^[n] v) →
    ∀ v, mvm (square S) v = (mvm base)^[2 * n] v) ∧
  (∃ A B C : Matrix, (∀ i : Fin 32, C[i] = A[i] ^^^ B[i]) ∧
    ∃ i : Fin 32, (square C)[i] ≠ (square A)[i] ^^^ (square B)[i])

/-- R140, R141: the rows of BASE, only row 0 with bit 31 set, and what BASE does to a vector. -/
def Obligations.BaseIsOneBitStep : Prop :=
  base[0] = 0xEDB88320#32 ∧ (∀ k : Fin 32, k ≠ 0 → base[k] = 1#32 <<< (k.val - 1)) ∧
  (∀ k : Fin 32, (base[k]).getLsbD 31 = true ↔ k = 0) ∧
  ∀ v : Word, mvm base v = (v >>> 1) ^^^ (if v.getLsbD 0 = true then 0xEDB88320#32 else 0#32)

/-- R142: OP(2^j) is BASE applied 2^j times, and OPB(k) is BASE applied 2^(k+3) times. -/
def Obligations.OperatorsArePowersOfBase : Prop :=
  ∀ (j : Nat) (v : Word), mvm (op j) v = (mvm base)^[2 ^ j] v ∧ mvm (opb j) v = (mvm base)^[2 ^ (j + 3)] v

/-- R151: the closed form of combine for any width of the length, as the product of the operators of the set
bits and as BASE applied 8n times, and its consequences (a) to (d). -/
def Obligations.CombineClosedForm : Prop :=
  (∀ (w : Nat) (c1 c2 : Word) (n : BitVec w), n ≠ 0#w →
    combine c1 c2 n =
      ((List.range w).foldl (fun c k => if n.getLsbD k = true then mvm (opb k) c else c) c1) ^^^ c2 ∧
    combine c1 c2 n = (mvm base)^[8 * n.toNat] c1 ^^^ c2) ∧
  (∀ (c2 n : Word), n ≠ 0#32 → combine 0#32 c2 n = c2) ∧
  (∀ (c1 c2 d1 d2 n : Word), n ≠ 0#32 →
    combine c1 c2 n ^^^ combine d1 d2 n = combine (c1 ^^^ d1) (c2 ^^^ d2) n) ∧
  (∀ (c1 c2 a b : Word), a ≠ 0#32 → b ≠ 0#32 → a.toNat + b.toNat < 2 ^ 32 →
    combine (combine c1 0#32 a) c2 b = combine c1 c2 (a + b)) ∧
  (∀ c1 c2 : Word, combine c1 c2 1#32 = mvm (opb 0) c1 ^^^ c2)

/-- R149: the result guarantee, with the CRC-32 of G1 (log 13), for a length of any width. -/
def Obligations.CombineGivesCrcOfConcatenation : Prop :=
  ∀ (w : Nat) (A B : List (BitVec 8)), B.length < 2 ^ w →
    combine (crc32 A) (crc32 B) (BitVec.ofNat w B.length) = crc32 (A ++ B)

/-- R154, R258: the longest length is 2^32 - 1 and not -1: BASE squared 32 times is BASE again, and the result
is the XOR of the operands. -/
def Obligations.LongestLengthXorsOperands : Prop :=
  op 32 = base ∧ ∀ c1 c2 : Word, combine c1 c2 0xFFFFFFFF#32 = c1 ^^^ c2

/-- R106, R125: the units' buses carry the functions. -/
def Obligations.UnitsComputeFunctions : Prop :=
  ∀ (M : Matrix) (v : Word),
    (∀ i : Fin 32, busRow (packMatrix M) i = M[i]) ∧
    mvmUnit (packMatrix M) v = mvm M v ∧ sqUnit (packMatrix M) = packMatrix (square M)

/-! ## Multi-Combine, a host procedure (43_multi_combine.md) -/

/-- R183: folding the CRCs and lengths of at least two chunks gives the CRC of their concatenation and the
total length (CRC-32 of G1, log 13). -/
def Obligations.MultiCombineGivesCrcOfConcatenation : Prop :=
  ∀ chunks : List (List (BitVec 8)), 2 ≤ chunks.length → (∀ B ∈ chunks, B.length < 2 ^ 32) →
    chunks.flatten.length < 2 ^ 64 →
    multiCombinePairs (chunks.map fun B => (crc32 B, BitVec.ofNat 32 B.length)) =
      .ok (crc32 chunks.flatten, BitVec.ofNat 64 chunks.flatten.length)

/-- The host's Multi-Combine as called, and R187's procedure for it. Refused with no command issued: fewer than
two elements (R181), a missing field (R182), a true total of 2^64 or more (R188). Otherwise the result is the
fold of R180 and the commands are those of R187, and on the idle block, whatever its state, their responses
give the host that same result. A pair with `len = 0` is issued too, where R187 lets the host skip it (log 19).
The host's length test of R216 and R258 writes 0 and refuses 2^32 and above, of the ways they leave (log 14). -/
def Obligations.HostProcedureChecksThenFolds : Prop :=
  (∀ args : List PairArg, (args.length < 2 ∨ ∃ a ∈ args, a.crc = none ∨ a.len = none) →
    multiCombine args = .error .invalidArgument ∧ multiCombineCommands args = []) ∧
  (∀ ps : List (Word × Word), 2 ≤ ps.length → 2 ^ 64 ≤ trueTotal ps →
    multiCombine (ps.map PairArg.ofPair) = .error .totalOverflow ∧
    multiCombineCommands (ps.map PairArg.ofPair) = []) ∧
  (∀ (p : Word × Word) (rest : List (Word × Word)), rest ≠ [] → trueTotal (p :: rest) < 2 ^ 64 →
    multiCombine ((p :: rest).map PairArg.ofPair) = multiCombinePairs (p :: rest) ∧
    multiCombinePairs (p :: rest) =
      .ok (rest.foldl (fun acc q => combine acc q.1 q.2) p.1, BitVec.ofNat 64 (trueTotal (p :: rest))) ∧
    multiCombineCommands ((p :: rest).map PairArg.ofPair) =
      .wrs .crc1 p.1 :: rest.flatMap fun q => [.wrs .crc2 q.1, .wrs .len q.2, .combine]) ∧
  (∀ (args : List PairArg) (s : State) (k : Nat), s.ph = .idle →
    s.cmdIn = presentAll (multiCombineCommands args) → 71 * args.length ≤ k → noReset k s = true →
    multiCombineResult args (responses k s) = (multiCombine args).map some) ∧
  (∀ n : Int, n ≤ 0 → hostLength n = some 0#32) ∧
  (∀ n : Nat, 0 < n → n < 2 ^ 32 → hostLength n = some (BitVec.ofNat 32 n)) ∧
  (∀ n : Int, 2 ^ 32 ≤ n → hostLength n = none)

/-- R185: the groupings of three chunks agree, over a true concatenation always, for arbitrary words when the
lengths are not zero and their sum fits; with a zero length they can differ. -/
def Obligations.CombineAssociates : Prop :=
  (∀ A B C : List (BitVec 8), B.length + C.length < 2 ^ 32 →
    combine (combine (crc32 A) (crc32 B) (BitVec.ofNat 32 B.length)) (crc32 C) (BitVec.ofNat 32 C.length) =
      combine (crc32 A) (combine (crc32 B) (crc32 C) (BitVec.ofNat 32 C.length))
        (BitVec.ofNat 32 (B.length + C.length))) ∧
  (∀ a b c lb lc : Word, lb ≠ 0#32 → lc ≠ 0#32 → lb.toNat + lc.toNat < 2 ^ 32 →
    combine (combine a b lb) c lc = combine a (combine b c lc) (lb + lc)) ∧
  (∀ a b c la lb lc : Word,
    multiCombinePairs [(a, la), (b, lb), (c, lc)] =
      .ok (combine (combine a b lb) c lc, BitVec.ofNat 64 (la.toNat + lb.toNat + lc.toNat))) ∧
  (∃ a b c lc : Word, lc ≠ 0#32 ∧ combine (combine a b 0#32) c lc ≠ combine a (combine b c lc) (0#32 + lc))
end

