-- ==== Sys2Proof/Laws/State.lean ====
section
/-! SUPPORT. One lemma per field per update of State, so that no proof unfolds a record update. -/

namespace Sys2Proof.Machine

/-! ### setDone -/

@[simp] theorem State.setDone_crc1 (s : State) : (s.setDone).crc1 = s.crc1 := rfl
@[simp] theorem State.setDone_crc2 (s : State) : (s.setDone).crc2 = s.crc2 := rfl
@[simp] theorem State.setDone_len (s : State) : (s.setDone).len = s.len := rfl
@[simp] theorem State.setDone_even (s : State) : (s.setDone).even = s.even := rfl
@[simp] theorem State.setDone_odd (s : State) : (s.setDone).odd = s.odd := rfl
@[simp] theorem State.setDone_ph (s : State) : (s.setDone).ph = s.ph := rfl
@[simp] theorem State.setDone_done (s : State) : (s.setDone).done = true := rfl
@[simp] theorem State.setDone_written (s : State) : (s.setDone).written = s.written := rfl
@[simp] theorem State.setDone_recorded (s : State) : (s.setDone).recorded = s.recorded := rfl
@[simp] theorem State.setDone_draw (s : State) : (s.setDone).draw = s.draw := rfl
@[simp] theorem State.setDone_rstIn (s : State) : (s.setDone).rstIn = s.rstIn := rfl
@[simp] theorem State.setDone_cmdIn (s : State) : (s.setDone).cmdIn = s.cmdIn := rfl
@[simp] theorem State.setDone_rsp (s : State) : (s.setDone).rsp = s.rsp := rfl

/-! ### clearDone -/

@[simp] theorem State.clearDone_crc1 (s : State) : (s.clearDone).crc1 = s.crc1 := rfl
@[simp] theorem State.clearDone_crc2 (s : State) : (s.clearDone).crc2 = s.crc2 := rfl
@[simp] theorem State.clearDone_len (s : State) : (s.clearDone).len = s.len := rfl
@[simp] theorem State.clearDone_even (s : State) : (s.clearDone).even = s.even := rfl
@[simp] theorem State.clearDone_odd (s : State) : (s.clearDone).odd = s.odd := rfl
@[simp] theorem State.clearDone_ph (s : State) : (s.clearDone).ph = s.ph := rfl
@[simp] theorem State.clearDone_done (s : State) : (s.clearDone).done = false := rfl
@[simp] theorem State.clearDone_written (s : State) : (s.clearDone).written = s.written := rfl
@[simp] theorem State.clearDone_recorded (s : State) : (s.clearDone).recorded = s.recorded := rfl
@[simp] theorem State.clearDone_draw (s : State) : (s.clearDone).draw = s.draw := rfl
@[simp] theorem State.clearDone_rstIn (s : State) : (s.clearDone).rstIn = s.rstIn := rfl
@[simp] theorem State.clearDone_cmdIn (s : State) : (s.clearDone).cmdIn = s.cmdIn := rfl
@[simp] theorem State.clearDone_rsp (s : State) : (s.clearDone).rsp = s.rsp := rfl

/-! ### setPhase -/

@[simp] theorem State.setPhase_crc1 (s : State) (p : Phase) : (s.setPhase p).crc1 = s.crc1 := rfl
@[simp] theorem State.setPhase_crc2 (s : State) (p : Phase) : (s.setPhase p).crc2 = s.crc2 := rfl
@[simp] theorem State.setPhase_len (s : State) (p : Phase) : (s.setPhase p).len = s.len := rfl
@[simp] theorem State.setPhase_even (s : State) (p : Phase) : (s.setPhase p).even = s.even := rfl
@[simp] theorem State.setPhase_odd (s : State) (p : Phase) : (s.setPhase p).odd = s.odd := rfl
@[simp] theorem State.setPhase_ph (s : State) (p : Phase) : (s.setPhase p).ph = p := rfl
@[simp] theorem State.setPhase_done (s : State) (p : Phase) : (s.setPhase p).done = s.done := rfl
@[simp] theorem State.setPhase_written (s : State) (p : Phase) : (s.setPhase p).written = s.written := rfl
@[simp] theorem State.setPhase_recorded (s : State) (p : Phase) : (s.setPhase p).recorded = s.recorded := rfl
@[simp] theorem State.setPhase_draw (s : State) (p : Phase) : (s.setPhase p).draw = s.draw := rfl
@[simp] theorem State.setPhase_rstIn (s : State) (p : Phase) : (s.setPhase p).rstIn = s.rstIn := rfl
@[simp] theorem State.setPhase_cmdIn (s : State) (p : Phase) : (s.setPhase p).cmdIn = s.cmdIn := rfl
@[simp] theorem State.setPhase_rsp (s : State) (p : Phase) : (s.setPhase p).rsp = s.rsp := rfl

/-! ### dependsOn -/

@[simp] theorem State.dependsOn_crc1 (s : State) (d : Bool) : (s.dependsOn d).crc1 = s.crc1 := rfl
@[simp] theorem State.dependsOn_crc2 (s : State) (d : Bool) : (s.dependsOn d).crc2 = s.crc2 := rfl
@[simp] theorem State.dependsOn_len (s : State) (d : Bool) : (s.dependsOn d).len = s.len := rfl
@[simp] theorem State.dependsOn_even (s : State) (d : Bool) : (s.dependsOn d).even = s.even := rfl
@[simp] theorem State.dependsOn_odd (s : State) (d : Bool) : (s.dependsOn d).odd = s.odd := rfl
@[simp] theorem State.dependsOn_ph (s : State) (d : Bool) : (s.dependsOn d).ph = s.ph := rfl
@[simp] theorem State.dependsOn_done (s : State) (d : Bool) : (s.dependsOn d).done = s.done := rfl
@[simp] theorem State.dependsOn_written (s : State) (d : Bool) : (s.dependsOn d).written = s.written := rfl
@[simp] theorem State.dependsOn_recorded (s : State) (d : Bool) : (s.dependsOn d).recorded = if d then s.recorded else some .readUnwritten := rfl
@[simp] theorem State.dependsOn_draw (s : State) (d : Bool) : (s.dependsOn d).draw = s.draw := rfl
@[simp] theorem State.dependsOn_rstIn (s : State) (d : Bool) : (s.dependsOn d).rstIn = s.rstIn := rfl
@[simp] theorem State.dependsOn_cmdIn (s : State) (d : Bool) : (s.dependsOn d).cmdIn = s.cmdIn := rfl
@[simp] theorem State.dependsOn_rsp (s : State) (d : Bool) : (s.dependsOn d).rsp = s.rsp := rfl

/-! ### respond -/

@[simp] theorem State.respond_crc1 (s : State) (e : ErrCode) (d : Word) : (s.respond e d).crc1 = s.crc1 := rfl
@[simp] theorem State.respond_crc2 (s : State) (e : ErrCode) (d : Word) : (s.respond e d).crc2 = s.crc2 := rfl
@[simp] theorem State.respond_len (s : State) (e : ErrCode) (d : Word) : (s.respond e d).len = s.len := rfl
@[simp] theorem State.respond_even (s : State) (e : ErrCode) (d : Word) : (s.respond e d).even = s.even := rfl
@[simp] theorem State.respond_odd (s : State) (e : ErrCode) (d : Word) : (s.respond e d).odd = s.odd := rfl
@[simp] theorem State.respond_ph (s : State) (e : ErrCode) (d : Word) : (s.respond e d).ph = s.ph := rfl
@[simp] theorem State.respond_done (s : State) (e : ErrCode) (d : Word) : (s.respond e d).done = s.done := rfl
@[simp] theorem State.respond_written (s : State) (e : ErrCode) (d : Word) : (s.respond e d).written = s.written := rfl
@[simp] theorem State.respond_recorded (s : State) (e : ErrCode) (d : Word) : (s.respond e d).recorded = s.recorded := rfl
@[simp] theorem State.respond_draw (s : State) (e : ErrCode) (d : Word) : (s.respond e d).draw = s.draw := rfl
@[simp] theorem State.respond_rstIn (s : State) (e : ErrCode) (d : Word) : (s.respond e d).rstIn = s.rstIn := rfl
@[simp] theorem State.respond_cmdIn (s : State) (e : ErrCode) (d : Word) : (s.respond e d).cmdIn = s.cmdIn := rfl
@[simp] theorem State.respond_rsp (s : State) (e : ErrCode) (d : Word) : (s.respond e d).rsp = some ⟨e, d⟩ := rfl

/-! ### raise -/

@[simp] theorem State.raise_crc1 (s : State) (e : Reject) : (s.raise e).crc1 = s.crc1 := rfl
@[simp] theorem State.raise_crc2 (s : State) (e : Reject) : (s.raise e).crc2 = s.crc2 := rfl
@[simp] theorem State.raise_len (s : State) (e : Reject) : (s.raise e).len = s.len := rfl
@[simp] theorem State.raise_even (s : State) (e : Reject) : (s.raise e).even = s.even := rfl
@[simp] theorem State.raise_odd (s : State) (e : Reject) : (s.raise e).odd = s.odd := rfl
@[simp] theorem State.raise_ph (s : State) (e : Reject) : (s.raise e).ph = s.ph := rfl
@[simp] theorem State.raise_done (s : State) (e : Reject) : (s.raise e).done = s.done := rfl
@[simp] theorem State.raise_written (s : State) (e : Reject) : (s.raise e).written = s.written := rfl
@[simp] theorem State.raise_recorded (s : State) (e : Reject) : (s.raise e).recorded = s.recorded := rfl
@[simp] theorem State.raise_draw (s : State) (e : Reject) : (s.raise e).draw = s.draw := rfl
@[simp] theorem State.raise_rstIn (s : State) (e : Reject) : (s.raise e).rstIn = s.rstIn := rfl
@[simp] theorem State.raise_cmdIn (s : State) (e : Reject) : (s.raise e).cmdIn = s.cmdIn := rfl
@[simp] theorem State.raise_rsp (s : State) (e : Reject) : (s.raise e).rsp = some ⟨errOf e, 0#32⟩ := rfl

/-! ### setCrc1 -/

@[simp] theorem State.setCrc1_crc1 (s : State) (v : Word) : (s.setCrc1 v).crc1 = v := rfl
@[simp] theorem State.setCrc1_crc2 (s : State) (v : Word) : (s.setCrc1 v).crc2 = s.crc2 := rfl
@[simp] theorem State.setCrc1_len (s : State) (v : Word) : (s.setCrc1 v).len = s.len := rfl
@[simp] theorem State.setCrc1_even (s : State) (v : Word) : (s.setCrc1 v).even = s.even := rfl
@[simp] theorem State.setCrc1_odd (s : State) (v : Word) : (s.setCrc1 v).odd = s.odd := rfl
@[simp] theorem State.setCrc1_ph (s : State) (v : Word) : (s.setCrc1 v).ph = s.ph := rfl
@[simp] theorem State.setCrc1_done (s : State) (v : Word) : (s.setCrc1 v).done = s.done := rfl
@[simp] theorem State.setCrc1_written (s : State) (v : Word) : (s.setCrc1 v).written = { s.written with crc1 := true } := rfl
@[simp] theorem State.setCrc1_recorded (s : State) (v : Word) : (s.setCrc1 v).recorded = s.recorded := rfl
@[simp] theorem State.setCrc1_draw (s : State) (v : Word) : (s.setCrc1 v).draw = s.draw := rfl
@[simp] theorem State.setCrc1_rstIn (s : State) (v : Word) : (s.setCrc1 v).rstIn = s.rstIn := rfl
@[simp] theorem State.setCrc1_cmdIn (s : State) (v : Word) : (s.setCrc1 v).cmdIn = s.cmdIn := rfl
@[simp] theorem State.setCrc1_rsp (s : State) (v : Word) : (s.setCrc1 v).rsp = s.rsp := rfl

/-! ### setCrc2 -/

@[simp] theorem State.setCrc2_crc1 (s : State) (v : Word) : (s.setCrc2 v).crc1 = s.crc1 := rfl
@[simp] theorem State.setCrc2_crc2 (s : State) (v : Word) : (s.setCrc2 v).crc2 = v := rfl
@[simp] theorem State.setCrc2_len (s : State) (v : Word) : (s.setCrc2 v).len = s.len := rfl
@[simp] theorem State.setCrc2_even (s : State) (v : Word) : (s.setCrc2 v).even = s.even := rfl
@[simp] theorem State.setCrc2_odd (s : State) (v : Word) : (s.setCrc2 v).odd = s.odd := rfl
@[simp] theorem State.setCrc2_ph (s : State) (v : Word) : (s.setCrc2 v).ph = s.ph := rfl
@[simp] theorem State.setCrc2_done (s : State) (v : Word) : (s.setCrc2 v).done = s.done := rfl
@[simp] theorem State.setCrc2_written (s : State) (v : Word) : (s.setCrc2 v).written = { s.written with crc2 := true } := rfl
@[simp] theorem State.setCrc2_recorded (s : State) (v : Word) : (s.setCrc2 v).recorded = s.recorded := rfl
@[simp] theorem State.setCrc2_draw (s : State) (v : Word) : (s.setCrc2 v).draw = s.draw := rfl
@[simp] theorem State.setCrc2_rstIn (s : State) (v : Word) : (s.setCrc2 v).rstIn = s.rstIn := rfl
@[simp] theorem State.setCrc2_cmdIn (s : State) (v : Word) : (s.setCrc2 v).cmdIn = s.cmdIn := rfl
@[simp] theorem State.setCrc2_rsp (s : State) (v : Word) : (s.setCrc2 v).rsp = s.rsp := rfl

/-! ### setLen -/

@[simp] theorem State.setLen_crc1 (s : State) (v : Word) : (s.setLen v).crc1 = s.crc1 := rfl
@[simp] theorem State.setLen_crc2 (s : State) (v : Word) : (s.setLen v).crc2 = s.crc2 := rfl
@[simp] theorem State.setLen_len (s : State) (v : Word) : (s.setLen v).len = v := rfl
@[simp] theorem State.setLen_even (s : State) (v : Word) : (s.setLen v).even = s.even := rfl
@[simp] theorem State.setLen_odd (s : State) (v : Word) : (s.setLen v).odd = s.odd := rfl
@[simp] theorem State.setLen_ph (s : State) (v : Word) : (s.setLen v).ph = s.ph := rfl
@[simp] theorem State.setLen_done (s : State) (v : Word) : (s.setLen v).done = s.done := rfl
@[simp] theorem State.setLen_written (s : State) (v : Word) : (s.setLen v).written = { s.written with len := true } := rfl
@[simp] theorem State.setLen_recorded (s : State) (v : Word) : (s.setLen v).recorded = s.recorded := rfl
@[simp] theorem State.setLen_draw (s : State) (v : Word) : (s.setLen v).draw = s.draw := rfl
@[simp] theorem State.setLen_rstIn (s : State) (v : Word) : (s.setLen v).rstIn = s.rstIn := rfl
@[simp] theorem State.setLen_cmdIn (s : State) (v : Word) : (s.setLen v).cmdIn = s.cmdIn := rfl
@[simp] theorem State.setLen_rsp (s : State) (v : Word) : (s.setLen v).rsp = s.rsp := rfl

/-! ### setBank -/

@[simp] theorem State.setBank_crc1 (s : State) (b : Bank) (M : Matrix) : (s.setBank b M).crc1 = s.crc1 := by cases b <;> rfl
@[simp] theorem State.setBank_crc2 (s : State) (b : Bank) (M : Matrix) : (s.setBank b M).crc2 = s.crc2 := by cases b <;> rfl
@[simp] theorem State.setBank_len (s : State) (b : Bank) (M : Matrix) : (s.setBank b M).len = s.len := by cases b <;> rfl
@[simp] theorem State.setBank_even (s : State) (b : Bank) (M : Matrix) : (s.setBank b M).even = if b = .even then M else s.even := by cases b <;> rfl
@[simp] theorem State.setBank_odd (s : State) (b : Bank) (M : Matrix) : (s.setBank b M).odd = if b = .odd then M else s.odd := by cases b <;> rfl
@[simp] theorem State.setBank_ph (s : State) (b : Bank) (M : Matrix) : (s.setBank b M).ph = s.ph := by cases b <;> rfl
@[simp] theorem State.setBank_done (s : State) (b : Bank) (M : Matrix) : (s.setBank b M).done = s.done := by cases b <;> rfl
@[simp] theorem State.setBank_written (s : State) (b : Bank) (M : Matrix) : (s.setBank b M).written = match b with
      | .even => { s.written with even := Vector.replicate 32 true }
      | .odd => { s.written with odd := Vector.replicate 32 true } := by cases b <;> rfl
@[simp] theorem State.setBank_recorded (s : State) (b : Bank) (M : Matrix) : (s.setBank b M).recorded = s.recorded := by cases b <;> rfl
@[simp] theorem State.setBank_draw (s : State) (b : Bank) (M : Matrix) : (s.setBank b M).draw = s.draw := by cases b <;> rfl
@[simp] theorem State.setBank_rstIn (s : State) (b : Bank) (M : Matrix) : (s.setBank b M).rstIn = s.rstIn := by cases b <;> rfl
@[simp] theorem State.setBank_cmdIn (s : State) (b : Bank) (M : Matrix) : (s.setBank b M).cmdIn = s.cmdIn := by cases b <;> rfl
@[simp] theorem State.setBank_rsp (s : State) (b : Bank) (M : Matrix) : (s.setBank b M).rsp = s.rsp := by cases b <;> rfl

/-! ### setRow -/

@[simp] theorem State.setRow_crc1 (s : State) (b : Bank) (k : Fin 32) (v : Word) : (s.setRow b k v).crc1 = s.crc1 := by cases b <;> rfl
@[simp] theorem State.setRow_crc2 (s : State) (b : Bank) (k : Fin 32) (v : Word) : (s.setRow b k v).crc2 = s.crc2 := by cases b <;> rfl
@[simp] theorem State.setRow_len (s : State) (b : Bank) (k : Fin 32) (v : Word) : (s.setRow b k v).len = s.len := by cases b <;> rfl
@[simp] theorem State.setRow_even (s : State) (b : Bank) (k : Fin 32) (v : Word) : (s.setRow b k v).even = if b = .even then s.even.set k v else s.even := by cases b <;> rfl
@[simp] theorem State.setRow_odd (s : State) (b : Bank) (k : Fin 32) (v : Word) : (s.setRow b k v).odd = if b = .odd then s.odd.set k v else s.odd := by cases b <;> rfl
@[simp] theorem State.setRow_ph (s : State) (b : Bank) (k : Fin 32) (v : Word) : (s.setRow b k v).ph = s.ph := by cases b <;> rfl
@[simp] theorem State.setRow_done (s : State) (b : Bank) (k : Fin 32) (v : Word) : (s.setRow b k v).done = s.done := by cases b <;> rfl
@[simp] theorem State.setRow_written (s : State) (b : Bank) (k : Fin 32) (v : Word) : (s.setRow b k v).written = match b with
      | .even => { s.written with even := s.written.even.set k true }
      | .odd => { s.written with odd := s.written.odd.set k true } := by cases b <;> rfl
@[simp] theorem State.setRow_recorded (s : State) (b : Bank) (k : Fin 32) (v : Word) : (s.setRow b k v).recorded = s.recorded := by cases b <;> rfl
@[simp] theorem State.setRow_draw (s : State) (b : Bank) (k : Fin 32) (v : Word) : (s.setRow b k v).draw = s.draw := by cases b <;> rfl
@[simp] theorem State.setRow_rstIn (s : State) (b : Bank) (k : Fin 32) (v : Word) : (s.setRow b k v).rstIn = s.rstIn := by cases b <;> rfl
@[simp] theorem State.setRow_cmdIn (s : State) (b : Bank) (k : Fin 32) (v : Word) : (s.setRow b k v).cmdIn = s.cmdIn := by cases b <;> rfl
@[simp] theorem State.setRow_rsp (s : State) (b : Bank) (k : Fin 32) (v : Word) : (s.setRow b k v).rsp = s.rsp := by cases b <;> rfl

/-! ### tick -/

@[simp] theorem State.tick_crc1 (s : State) : (s.tick).crc1 = s.crc1 := rfl
@[simp] theorem State.tick_crc2 (s : State) : (s.tick).crc2 = s.crc2 := rfl
@[simp] theorem State.tick_len (s : State) : (s.tick).len = s.len := rfl
@[simp] theorem State.tick_even (s : State) : (s.tick).even = s.even := rfl
@[simp] theorem State.tick_odd (s : State) : (s.tick).odd = s.odd := rfl
@[simp] theorem State.tick_ph (s : State) : (s.tick).ph = s.ph := rfl
@[simp] theorem State.tick_done (s : State) : (s.tick).done = s.done := rfl
@[simp] theorem State.tick_written (s : State) : (s.tick).written = s.written := rfl
@[simp] theorem State.tick_recorded (s : State) : (s.tick).recorded = s.recorded := rfl
@[simp] theorem State.tick_draw (s : State) : (s.tick).draw = s.draw := rfl
@[simp] theorem State.tick_rstIn (s : State) : (s.tick).rstIn = s.rstIn.tail := rfl
@[simp] theorem State.tick_cmdIn (s : State) : (s.tick).cmdIn = match s.cmdIn with
      | none :: rest => rest
      | held => held := rfl
@[simp] theorem State.tick_rsp (s : State) : (s.tick).rsp = none := rfl

/-! ### accept -/

@[simp] theorem State.accept_crc1 (s : State) : (s.accept).crc1 = s.crc1 := rfl
@[simp] theorem State.accept_crc2 (s : State) : (s.accept).crc2 = s.crc2 := rfl
@[simp] theorem State.accept_len (s : State) : (s.accept).len = s.len := rfl
@[simp] theorem State.accept_even (s : State) : (s.accept).even = s.even := rfl
@[simp] theorem State.accept_odd (s : State) : (s.accept).odd = s.odd := rfl
@[simp] theorem State.accept_ph (s : State) : (s.accept).ph = s.ph := rfl
@[simp] theorem State.accept_done (s : State) : (s.accept).done = s.done := rfl
@[simp] theorem State.accept_written (s : State) : (s.accept).written = s.written := rfl
@[simp] theorem State.accept_recorded (s : State) : (s.accept).recorded = s.recorded := rfl
@[simp] theorem State.accept_draw (s : State) : (s.accept).draw = s.draw := rfl
@[simp] theorem State.accept_rstIn (s : State) : (s.accept).rstIn = s.rstIn.tail := rfl
@[simp] theorem State.accept_cmdIn (s : State) : (s.accept).cmdIn = s.cmdIn.tail := rfl
@[simp] theorem State.accept_rsp (s : State) : (s.accept).rsp = none := rfl

/-! ### takeReset -/

@[simp] theorem State.takeReset_crc1 (s : State) : (s.takeReset).crc1 = (State.postReset s.draw).crc1 := rfl
@[simp] theorem State.takeReset_crc2 (s : State) : (s.takeReset).crc2 = (State.postReset s.draw).crc2 := rfl
@[simp] theorem State.takeReset_len (s : State) : (s.takeReset).len = (State.postReset s.draw).len := rfl
@[simp] theorem State.takeReset_even (s : State) : (s.takeReset).even = (State.postReset s.draw).even := rfl
@[simp] theorem State.takeReset_odd (s : State) : (s.takeReset).odd = (State.postReset s.draw).odd := rfl
@[simp] theorem State.takeReset_ph (s : State) : (s.takeReset).ph = .idle := rfl
@[simp] theorem State.takeReset_done (s : State) : (s.takeReset).done = false := rfl
@[simp] theorem State.takeReset_written (s : State) : (s.takeReset).written = Written.none := rfl
@[simp] theorem State.takeReset_recorded (s : State) : (s.takeReset).recorded = none := rfl
@[simp] theorem State.takeReset_draw (s : State) : (s.takeReset).draw = s.draw + 1 := rfl
@[simp] theorem State.takeReset_rstIn (s : State) : (s.takeReset).rstIn = s.rstIn := rfl
@[simp] theorem State.takeReset_cmdIn (s : State) : (s.takeReset).cmdIn = s.cmdIn := rfl
@[simp] theorem State.takeReset_rsp (s : State) : (s.takeReset).rsp = none := rfl

/-! ### Banks and rows through their accessors -/

@[simp] theorem State.bank_even (s : State) : s.bank .even = s.even := rfl
@[simp] theorem State.bank_odd (s : State) : s.bank .odd = s.odd := rfl
@[simp] theorem State.bankMarks_even (s : State) : s.bankMarks .even = s.written.even := rfl
@[simp] theorem State.bankMarks_odd (s : State) : s.bankMarks .odd = s.written.odd := rfl
@[simp] theorem State.bank_setDone (s : State) (b : Bank) : (s.setDone).bank b = s.bank b := by
  cases b <;> rfl
@[simp] theorem State.readRow_setDone (s : State) (b : Bank) (k : Fin 32) :
    (s.setDone).readRow b k = s.readRow b k := by cases b <;> rfl
@[simp] theorem State.rowDefined_setDone (s : State) (b : Bank) (k : Fin 32) :
    (s.setDone).rowDefined b k = s.rowDefined b k := by cases b <;> rfl
@[simp] theorem State.bank_clearDone (s : State) (b : Bank) : (s.clearDone).bank b = s.bank b := by
  cases b <;> rfl
@[simp] theorem State.readRow_clearDone (s : State) (b : Bank) (k : Fin 32) :
    (s.clearDone).readRow b k = s.readRow b k := by cases b <;> rfl
@[simp] theorem State.rowDefined_clearDone (s : State) (b : Bank) (k : Fin 32) :
    (s.clearDone).rowDefined b k = s.rowDefined b k := by cases b <;> rfl
@[simp] theorem State.bank_setPhase (s : State) (p : Phase) (b : Bank) : (s.setPhase p).bank b = s.bank b := by
  cases b <;> rfl
@[simp] theorem State.readRow_setPhase (s : State) (p : Phase) (b : Bank) (k : Fin 32) :
    (s.setPhase p).readRow b k = s.readRow b k := by cases b <;> rfl
@[simp] theorem State.rowDefined_setPhase (s : State) (p : Phase) (b : Bank) (k : Fin 32) :
    (s.setPhase p).rowDefined b k = s.rowDefined b k := by cases b <;> rfl
@[simp] theorem State.bank_dependsOn (s : State) (d : Bool) (b : Bank) : (s.dependsOn d).bank b = s.bank b := by
  cases b <;> rfl
@[simp] theorem State.readRow_dependsOn (s : State) (d : Bool) (b : Bank) (k : Fin 32) :
    (s.dependsOn d).readRow b k = s.readRow b k := by cases b <;> rfl
@[simp] theorem State.rowDefined_dependsOn (s : State) (d : Bool) (b : Bank) (k : Fin 32) :
    (s.dependsOn d).rowDefined b k = s.rowDefined b k := by cases b <;> rfl
@[simp] theorem State.bank_respond (s : State) (e : ErrCode) (d : Word) (b : Bank) : (s.respond e d).bank b = s.bank b := by
  cases b <;> rfl
@[simp] theorem State.readRow_respond (s : State) (e : ErrCode) (d : Word) (b : Bank) (k : Fin 32) :
    (s.respond e d).readRow b k = s.readRow b k := by cases b <;> rfl
@[simp] theorem State.rowDefined_respond (s : State) (e : ErrCode) (d : Word) (b : Bank) (k : Fin 32) :
    (s.respond e d).rowDefined b k = s.rowDefined b k := by cases b <;> rfl
@[simp] theorem State.bank_raise (s : State) (e : Reject) (b : Bank) : (s.raise e).bank b = s.bank b := by
  cases b <;> rfl
@[simp] theorem State.readRow_raise (s : State) (e : Reject) (b : Bank) (k : Fin 32) :
    (s.raise e).readRow b k = s.readRow b k := by cases b <;> rfl
@[simp] theorem State.rowDefined_raise (s : State) (e : Reject) (b : Bank) (k : Fin 32) :
    (s.raise e).rowDefined b k = s.rowDefined b k := by cases b <;> rfl
@[simp] theorem State.bank_setCrc1 (s : State) (v : Word) (b : Bank) : (s.setCrc1 v).bank b = s.bank b := by
  cases b <;> rfl
@[simp] theorem State.readRow_setCrc1 (s : State) (v : Word) (b : Bank) (k : Fin 32) :
    (s.setCrc1 v).readRow b k = s.readRow b k := by cases b <;> rfl
@[simp] theorem State.rowDefined_setCrc1 (s : State) (v : Word) (b : Bank) (k : Fin 32) :
    (s.setCrc1 v).rowDefined b k = s.rowDefined b k := by cases b <;> rfl
@[simp] theorem State.bank_setCrc2 (s : State) (v : Word) (b : Bank) : (s.setCrc2 v).bank b = s.bank b := by
  cases b <;> rfl
@[simp] theorem State.readRow_setCrc2 (s : State) (v : Word) (b : Bank) (k : Fin 32) :
    (s.setCrc2 v).readRow b k = s.readRow b k := by cases b <;> rfl
@[simp] theorem State.rowDefined_setCrc2 (s : State) (v : Word) (b : Bank) (k : Fin 32) :
    (s.setCrc2 v).rowDefined b k = s.rowDefined b k := by cases b <;> rfl
@[simp] theorem State.bank_setLen (s : State) (v : Word) (b : Bank) : (s.setLen v).bank b = s.bank b := by
  cases b <;> rfl
@[simp] theorem State.readRow_setLen (s : State) (v : Word) (b : Bank) (k : Fin 32) :
    (s.setLen v).readRow b k = s.readRow b k := by cases b <;> rfl
@[simp] theorem State.rowDefined_setLen (s : State) (v : Word) (b : Bank) (k : Fin 32) :
    (s.setLen v).rowDefined b k = s.rowDefined b k := by cases b <;> rfl
@[simp] theorem State.bank_tick (s : State) (b : Bank) : (s.tick).bank b = s.bank b := by
  cases b <;> rfl
@[simp] theorem State.readRow_tick (s : State) (b : Bank) (k : Fin 32) :
    (s.tick).readRow b k = s.readRow b k := by cases b <;> rfl
@[simp] theorem State.rowDefined_tick (s : State) (b : Bank) (k : Fin 32) :
    (s.tick).rowDefined b k = s.rowDefined b k := by cases b <;> rfl
@[simp] theorem State.bank_accept (s : State) (b : Bank) : (s.accept).bank b = s.bank b := by
  cases b <;> rfl
@[simp] theorem State.readRow_accept (s : State) (b : Bank) (k : Fin 32) :
    (s.accept).readRow b k = s.readRow b k := by cases b <;> rfl
@[simp] theorem State.rowDefined_accept (s : State) (b : Bank) (k : Fin 32) :
    (s.accept).rowDefined b k = s.rowDefined b k := by cases b <;> rfl

/-- The fault record after a step that depends on elements: none exactly if none before and all written. -/
theorem State.dependsOn_recorded_none (s : State) (d : Bool) :
    (s.dependsOn d).recorded = none ↔ s.recorded = none ∧ d = true := by
  cases d <;> simp

theorem State.rowDefined_takeReset (s : State) (b : Bank) (k : Fin 32) :
    s.takeReset.rowDefined b k = false := by
  cases b <;> simp [State.rowDefined, State.bankMarks, Written.none]

@[simp] theorem otherBank_ne (b : Bank) : otherBank b ≠ b := by cases b <;> decide
@[simp] theorem otherBank_otherBank (b : Bank) : otherBank (otherBank b) = b := by cases b <;> rfl

theorem State.bank_setBank (s : State) (b c : Bank) (M : Matrix) :
    (s.setBank b M).bank c = if c = b then M else s.bank c := by cases b <;> cases c <;> rfl

theorem State.bankMarks_setBank (s : State) (b c : Bank) (M : Matrix) :
    (s.setBank b M).bankMarks c = if c = b then Vector.replicate 32 true else s.bankMarks c := by
  cases b <;> cases c <;> rfl

theorem State.bank_setRow (s : State) (b c : Bank) (k : Fin 32) (v : Word) :
    (s.setRow b k v).bank c = if c = b then (s.bank c).set k v else s.bank c := by
  cases b <;> cases c <;> rfl

theorem State.readRow_setRow (s : State) (b c : Bank) (k j : Fin 32) (v : Word) :
    (s.setRow b k v).readRow c j = if c = b ∧ j = k then v else s.readRow c j := by
  cases b <;> cases c <;>
    simp [State.readRow, State.bank, State.setRow, Vector.getElem_set, Fin.val_inj, @eq_comm _ k j]

theorem State.rowDefined_setRow (s : State) (b c : Bank) (k j : Fin 32) (v : Word) :
    (s.setRow b k v).rowDefined c j = (decide (c = b ∧ j = k) || s.rowDefined c j) := by
  by_cases hk : j = k
  · subst hk
    cases b <;> cases c <;> simp [State.rowDefined, State.bankMarks, State.setRow]
  · have hn : k.val ≠ j.val := fun h => hk (Fin.ext h.symm)
    cases b <;> cases c <;>
      simp [State.rowDefined, State.bankMarks, State.setRow, hn, hk]

end Sys2Proof.Machine
end

