-- ==== Sys2Proof/Laws/Engine.lean ====
section
/-! SUPPORT. What each shared operation over State can do, said once: the squaring of a bank into the other,
the loading of BASE, the apply-shift-test half, the write of a scalar. -/

namespace Sys2Proof.Machine

/-! ### squareInto -/

@[simp] theorem State.squareInto_bank (s : State) (d c : Bank) :
    (s.squareInto d).bank c = if c = d then square (s.bank (otherBank d)) else s.bank c := by
  rw [State.squareInto, State.bank_setBank]
  cases c <;> rfl

@[simp] theorem State.squareInto_rowDefined (s : State) (d c : Bank) (k : Fin 32) :
    (s.squareInto d).rowDefined c k = (decide (c = d) || s.rowDefined c k) := by
  cases d <;> cases c <;> simp [State.squareInto, State.rowDefined, State.bankMarks, State.setBank, State.dependsOn]

@[simp] theorem State.squareInto_recorded (s : State) (d : Bank) :
    (s.squareInto d).recorded = if s.bankDefined (otherBank d) then s.recorded else some .readUnwritten := by
  simp [State.squareInto]

/-- A squaring touches one bank, its marks and the fault record, nothing else (R126). -/
theorem State.squareInto_frame (s : State) (d : Bank) :
    (s.squareInto d).crc1 = s.crc1 ∧ (s.squareInto d).crc2 = s.crc2 ∧ (s.squareInto d).len = s.len ∧
    (s.squareInto d).ph = s.ph ∧ (s.squareInto d).done = s.done ∧
    (s.squareInto d).written.crc1 = s.written.crc1 ∧ (s.squareInto d).written.crc2 = s.written.crc2 ∧
    (s.squareInto d).written.len = s.written.len ∧ (s.squareInto d).draw = s.draw ∧
    (s.squareInto d).rstIn = s.rstIn ∧ (s.squareInto d).cmdIn = s.cmdIn ∧ (s.squareInto d).rsp = s.rsp := by
  cases d <;> simp [State.squareInto]

@[simp] theorem State.squareInto_readRow (s : State) (d c : Bank) (k : Fin 32) :
    (s.squareInto d).readRow c k =
      if c = d then mvm (s.bank (otherBank d)) (s.bank (otherBank d))[k] else s.readRow c k := by
  unfold State.readRow
  rw [State.squareInto_bank]
  split <;> simp [square]

/-! ### loadBase -/

@[simp] theorem State.loadBase_bank (s : State) (c : Bank) :
    s.loadBase.bank c = if c = .odd then base else s.bank c := by
  rw [State.loadBase, State.bank_setBank]

@[simp] theorem State.loadBase_rowDefined (s : State) (c : Bank) (k : Fin 32) :
    s.loadBase.rowDefined c k = (decide (c = .odd) || s.rowDefined c k) := by
  cases c <;> simp [State.loadBase, State.rowDefined, State.bankMarks, State.setBank]

@[simp] theorem State.loadBase_readRow (s : State) (c : Bank) (k : Fin 32) :
    s.loadBase.readRow c k = if c = .odd then base[k] else s.readRow c k := by
  unfold State.readRow
  rw [State.loadBase_bank]
  split <;> rfl

/-- Loading BASE touches ODD and its marks, nothing else (R153). -/
theorem State.loadBase_frame (s : State) :
    s.loadBase.crc1 = s.crc1 ∧ s.loadBase.crc2 = s.crc2 ∧ s.loadBase.len = s.len ∧
    s.loadBase.ph = s.ph ∧ s.loadBase.done = s.done ∧ s.loadBase.written.crc1 = s.written.crc1 ∧
    s.loadBase.written.crc2 = s.written.crc2 ∧ s.loadBase.written.len = s.written.len ∧
    s.loadBase.recorded = s.recorded ∧ s.loadBase.draw = s.draw ∧ s.loadBase.rstIn = s.rstIn ∧
    s.loadBase.cmdIn = s.cmdIn ∧ s.loadBase.rsp = s.rsp := by
  simp [State.loadBase]

/-! ### applyShift -/

/-- The apply half when the bit of the length is set (R159, R161). -/
theorem State.applyShift_of_bit {s : State} (h : s.len.getLsbD 0 = true) (b : Bank) (again : Phase) :
    s.applyShift b again =
      (((s.dependsOn (s.written.len && s.productDefined b)).setCrc1 (s.product b)).setLen
        (s.len >>> 1)).setPhase (if s.len >>> 1 = 0#32 then .cFin else again) := by
  unfold State.applyShift
  rw [h]
  rfl

/-- The apply half when the bit of the length is clear (R159, R161). -/
theorem State.applyShift_of_no_bit {s : State} (h : s.len.getLsbD 0 = false) (b : Bank) (again : Phase) :
    s.applyShift b again =
      ((s.dependsOn s.written.len).setLen (s.len >>> 1)).setPhase
        (if s.len >>> 1 = 0#32 then .cFin else again) := by
  unfold State.applyShift
  rw [h]
  rfl

/-- What the apply half leaves in the registers, whichever way the bit is (R159, R161). -/
theorem State.applyShift_fields (s : State) (b : Bank) (again : Phase) :
    (s.applyShift b again).crc1 = applyIf (s.len.getLsbD 0) (s.bank b) s.crc1 ∧
    (s.applyShift b again).crc2 = s.crc2 ∧ (s.applyShift b again).len = s.len >>> 1 ∧
    (s.applyShift b again).even = s.even ∧ (s.applyShift b again).odd = s.odd ∧
    (s.applyShift b again).ph = (if s.len >>> 1 = 0#32 then .cFin else again) ∧
    (s.applyShift b again).done = s.done ∧ (s.applyShift b again).draw = s.draw ∧
    (s.applyShift b again).rstIn = s.rstIn ∧ (s.applyShift b again).cmdIn = s.cmdIn ∧
    (s.applyShift b again).rsp = s.rsp := by
  cases h : s.len.getLsbD 0
  · rw [State.applyShift_of_no_bit h]
    simp [applyIf]
  · rw [State.applyShift_of_bit h]
    simp [applyIf, State.product]

/-! ### writeScalar -/

/-- A write to a writable register is answered OK, a write to STATUS is rejected (R191, R214). -/
@[simp] theorem State.writeScalar_rsp (s : State) (r : Scalar) (v : Word) :
    (s.writeScalar r v).rsp = some ⟨if r.writable then .ok else .eAccess, 0#32⟩ := by
  cases r <;> rfl

/-- A write is read back, except through STATUS (R191, R192). -/
theorem State.readScalar_writeScalar (s : State) (r q : Scalar) (v : Word) :
    (s.writeScalar r v).readScalar q = if q = r ∧ r.writable = true then v else s.readScalar q := by
  cases r <;> cases q <;> rfl

/-! ### The phases, by PH -/

theorem State.phaseStep_of_ph {s : State} (h : s.ph = .idle) : s.phaseStep = s := by
  simp [State.phaseStep, h]

end Sys2Proof.Machine
end

