-- ==== Sys2Proof/Laws/Gf2.lean ====
section
/-! SUPPORT. The small lemmas of the Layer F functions. -/

namespace Sys2Proof.Machine

@[simp] theorem xorAll_nil : xorAll [] = 0#32 := rfl

@[simp] theorem xorAll_cons (w : Word) (ws : List Word) : xorAll (w :: ws) = w ^^^ xorAll ws := rfl

theorem xorAll_getLsbD (ws : List Word) (j : Nat) :
    (xorAll ws).getLsbD j = (ws.map fun w => w.getLsbD j).foldr xor false := by
  induction ws with
  | nil => simp
  | cons w ws ih => simp [ih]

/-- A row of a squaring is the product of the whole source with its own row (R120). -/
@[simp] theorem square_getElem (S : Matrix) (i : Fin 32) : (square S)[i] = mvm S S[i] := by
  simp [square]

/-- The rows of BASE (R140). -/
@[simp] theorem base_getElem (k : Fin 32) :
    base[k] = if k = 0 then Config.poly else 1#32 <<< (k.val - 1) := by
  simp [base]

@[simp] theorem op_zero : op 0 = base := rfl

theorem op_succ (j : Nat) : op (j + 1) = square (op j) := rfl

/-- The degenerate length returns the first CRC (R143). -/
@[simp] theorem combine_zero {w : Nat} (c1 c2 : Word) : combine c1 c2 (0 : BitVec w) = c1 := by
  simp [combine]

/-- A non-degenerate length XORs the second CRC in once, after the loop (R147). -/
theorem combine_of_ne_zero {w : Nat} (c1 c2 : Word) {n : BitVec w} (h : n ≠ 0) :
    combine c1 c2 n = (combineRun c1 n).c1 ^^^ c2 := by
  rw [combine, if_neg h]

end Sys2Proof.Machine
end

