-- ==== Sys2Proof/Laws/HostSide.lean ====
section
/-! SUPPORT. What the host's checks and its fold can do, said once. -/

namespace Sys2Proof.Machine

@[simp] theorem PairArg.complete_ofPair (p : Word × Word) : (PairArg.ofPair p).complete = some p := rfl

/-- An element is complete exactly when it is some pair (R182). -/
theorem PairArg.complete_eq_some {a : PairArg} {p : Word × Word} :
    a.complete = some p ↔ a = PairArg.ofPair p := by
  obtain ⟨_ | c, _ | n⟩ := a <;> obtain ⟨d, m⟩ := p <;> simp [PairArg.complete, PairArg.ofPair]

theorem PairArg.complete_eq_none {a : PairArg} : a.complete = none ↔ a.crc = none ∨ a.len = none := by
  obtain ⟨_ | c, _ | n⟩ := a <;> simp [PairArg.complete]

theorem mapM_complete_ofPair (ps : List (Word × Word)) :
    (ps.map PairArg.ofPair).mapM PairArg.complete = some ps := by
  induction ps with
  | nil => rfl
  | cons p ps ih => simp [ih]

/-- The elements are all complete exactly when they are a list of pairs. -/
theorem mapM_complete_eq_some {args : List PairArg} {ps : List (Word × Word)} :
    args.mapM PairArg.complete = some ps ↔ args = ps.map PairArg.ofPair := by
  constructor
  · intro h
    induction args generalizing ps with
    | nil => simpa using h
    | cons a args ih =>
      simp only [List.mapM_cons, Option.bind_eq_bind, Option.bind_eq_some_iff, Option.pure_def,
        Option.some.injEq] at h
      obtain ⟨p, hp, qs, hq, rfl⟩ := h
      simp [PairArg.complete_eq_some.mp hp, ih hq]
  · rintro rfl
    exact mapM_complete_ofPair ps

/-- All that passing the checks means: the arguments are the fold's pairs, at least two, total below 2^64. -/
theorem checkArgs_eq_ok {args : List PairArg} {f : Fold} :
    checkArgs args = .ok f ↔
      args = (f.first :: f.rest).map PairArg.ofPair ∧ f.rest ≠ [] ∧ trueTotal (f.first :: f.rest) < 2 ^ 64 := by
  obtain ⟨p, rest⟩ := f
  constructor
  · intro h
    unfold checkArgs at h
    split at h
    · cases h
    · rename_i ps hm
      unfold checkPairs at h
      split at h
      · cases h
      · cases h
      · split at h
        · cases h
          exact ⟨mapM_complete_eq_some.mp hm, by simp, ‹_›⟩
        · cases h
  · rintro ⟨rfl, hr, ht⟩
    obtain ⟨q, rest, rfl⟩ := List.exists_cons_of_ne_nil hr
    simp only [checkArgs, mapM_complete_ofPair, checkPairs]
    exact if_pos ht

theorem Fold.commands_length (f : Fold) : f.commands.length = 1 + 3 * f.rest.length := by
  simp [Fold.commands, List.length_flatMap]
  omega

theorem trueTotal_replicate (n : Nat) (p : Word × Word) :
    trueTotal (List.replicate n p) = n * p.2.toNat := by
  simp [trueTotal]

/-- The running 64-bit total is the true total modulo 2^64. -/
theorem foldl_addLength (ps : List (Word × Word)) (t : BitVec 64) :
    ps.foldl addLength t = t + BitVec.ofNat 64 (trueTotal ps) := by
  induction ps generalizing t with
  | nil => simp [trueTotal]
  | cons p ps ih =>
    rw [List.foldl_cons, ih]
    apply BitVec.eq_of_toNat_eq
    have h := p.2.isLt
    simp only [addLength, trueTotal, List.map_cons, List.sum_cons, BitVec.toNat_add, BitVec.toNat_ofNat,
      BitVec.truncate_eq_setWidth, BitVec.toNat_setWidth]
    omega

theorem Fold.total_eq (f : Fold) : f.total = BitVec.ofNat 64 (trueTotal (f.first :: f.rest)) := by
  rw [Fold.total, foldl_addLength]
  apply BitVec.eq_of_toNat_eq
  have h := f.first.2.isLt
  simp only [trueTotal, List.map_cons, List.sum_cons, BitVec.toNat_add, BitVec.toNat_ofNat,
    BitVec.truncate_eq_setWidth, BitVec.toNat_setWidth]
  omega

end Sys2Proof.Machine
end

