-- ==== Sys2Proof/Laws/PerInstr.lean ====
section
/-! SUPPORT. A law of the syntax, stated per instruction: the encoded command word is accepted by the opcode
table's row of the instruction's own opcode, and by no other row (R76: "The rows are disjoint"). -/

namespace Sys2Proof.Laws.RowOfEncoding

/-- The table rows that accept a word, by their opcodes. -/
def rowsOf (w : BitVec 16) : List Opcode := (opcodeTable.filter fun row => row.accepts w).map (·.opcode)

/-- The encoding of `i` is a word of exactly the row of `i`'s opcode. -/
def Statement (i : Instr) : Prop := rowsOf (encode i).cmd = [i.opcode]

theorem nop : Statement .nop := (by decide : rowsOf _ = _)

theorem wrs (r : Scalar) (v : Word) : Statement (.wrs r v) := by
  have h : rowsOf (commandWord .wrs 0 (r.selector.zeroExtend 5)) = [.wrs] := by
    cases r <;> decide
  exact h

theorem rds (r : Scalar) : Statement (.rds r) := by
  have h : rowsOf (commandWord .rds 0 (r.selector.zeroExtend 5)) = [.rds] := by
    cases r <;> decide
  exact h

theorem wrrow (b : Bank) (k : Fin 32) (v : Word) : Statement (.wrrow b k v) := by
  have h : ∀ (b : Bank) (k : Fin 32), rowsOf (commandWord .wrrow b.bit (BitVec.ofFin k)) = [.wrrow] := by
    intro b
    cases b <;> decide
  exact h b k

theorem rdrow (b : Bank) (k : Fin 32) : Statement (.rdrow b k) := by
  have h : ∀ (b : Bank) (k : Fin 32), rowsOf (commandWord .rdrow b.bit (BitVec.ofFin k)) = [.rdrow] := by
    intro b
    cases b <;> decide
  exact h b k

theorem minit : Statement .minit := (by decide : rowsOf _ = _)

theorem msquare (d : Bank) : Statement (.msquare d) := by
  have h : rowsOf (commandWord .msquare d.bit 0) = [.msquare] := by
    cases d <;> decide
  exact h

theorem mvmul (b : Bank) : Statement (.mvmul b) := by
  have h : rowsOf (commandWord .mvmul b.bit 0) = [.mvmul] := by
    cases b <;> decide
  exact h

theorem combine : Statement .combine := (by decide : rowsOf _ = _)

end Sys2Proof.Laws.RowOfEncoding
end

