-- ==== Sys2Proof/Laws/Step.lean ====
section
/-! SUPPORT. What one step can do, said once: the four cases of R217, and for each instruction and each
phase the state it gives. -/

namespace Sys2Proof.Machine

/-! ## The step's cases (R217) -/

theorem step_of_rst {s : State} (h : s.rstNow = true) : step s = .next s.tick.takeReset := by
  simp [step, oneStep, h]

theorem step_of_busy {s : State} (h : s.rstNow = false) (hb : s.busy = true) :
    step s = .next s.tick.phaseStep := by
  simp [step, oneStep, h, hb]

theorem step_of_presented {s : State} {c : Command} (h : s.rstNow = false) (hb : s.busy = false)
    (hc : s.presented = some c) : step s = runCommand c s.accept := by
  simp [step, oneStep, h, hb, hc]

theorem step_of_silent {s : State} (h : s.rstNow = false) (hb : s.busy = false)
    (hc : s.presented = none) : step s = .next s.tick := by
  simp [step, oneStep, h, hb, hc]

theorem runCommand_ok {c : Command} {i : Instr} (h : decode c = .ok i) (s : State) :
    runCommand c s = exec i s := by
  simp [runCommand, h]

theorem runCommand_error {c : Command} {e : Reject} (h : decode c = .error e) (s : State) :
    runCommand c s = .next (s.raise e) := by
  simp [runCommand, h]

/-- Everything a step can do: if it answers `t`, one of these holds. -/
theorem step_cases {s t : State} (h : step s = .next t) :
    (s.rstNow = true ∧ t = s.tick.takeReset) ∨
    (s.rstNow = false ∧ s.busy = true ∧ t = s.tick.phaseStep) ∨
    (s.rstNow = false ∧ s.busy = false ∧ s.presented = none ∧ t = s.tick) ∨
    (∃ c e, s.rstNow = false ∧ s.busy = false ∧ s.presented = some c ∧ decode c = .error e ∧
      t = s.accept.raise e) ∨
    (∃ c i, s.rstNow = false ∧ s.busy = false ∧ s.presented = some c ∧ decode c = .ok i ∧
      exec i s.accept = .next t) := by
  cases hr : s.rstNow with
  | true =>
    rw [step_of_rst hr] at h
    exact .inl ⟨rfl, by simpa using h.symm⟩
  | false =>
    cases hb : s.busy with
    | true =>
      rw [step_of_busy hr hb] at h
      exact .inr (.inl ⟨rfl, rfl, by simpa using h.symm⟩)
    | false =>
      cases hc : s.presented with
      | none =>
        rw [step_of_silent hr hb hc] at h
        exact .inr (.inr (.inl ⟨rfl, rfl, rfl, by simpa using h.symm⟩))
      | some c =>
        rw [step_of_presented hr hb hc] at h
        cases hd : decode c with
        | error e =>
          rw [runCommand_error hd] at h
          exact .inr (.inr (.inr (.inl ⟨c, e, rfl, rfl, rfl, hd, by simpa using h.symm⟩)))
        | ok i =>
          rw [runCommand_ok hd] at h
          exact .inr (.inr (.inr (.inr ⟨c, i, rfl, rfl, rfl, hd, h⟩)))

/-! ## The instructions: the one state each answers with -/

@[simp] theorem exec_nop (s : State) : exec .nop s = .next (s.respond .ok 0#32) := rfl

@[simp] theorem exec_wrs (r : Scalar) (v : Word) (s : State) :
    exec (.wrs r v) s = .next (s.writeScalar r v) := rfl

@[simp] theorem exec_rds (r : Scalar) (s : State) :
    exec (.rds r) s = .next ((s.dependsOn (s.scalarDefined r)).respond .ok (s.readScalar r)) := rfl

@[simp] theorem exec_wrrow (b : Bank) (k : Fin 32) (v : Word) (s : State) :
    exec (.wrrow b k v) s = .next ((s.setRow b k v).respond .ok 0#32) := rfl

@[simp] theorem exec_rdrow (b : Bank) (k : Fin 32) (s : State) :
    exec (.rdrow b k) s = .next ((s.dependsOn (s.rowDefined b k)).respond .ok (s.readRow b k)) := rfl

@[simp] theorem exec_minit (s : State) : exec .minit s = .next (s.loadBase.respond .ok 0#32) := rfl

@[simp] theorem exec_msquare (d : Bank) (s : State) :
    exec (.msquare d) s = .next ((s.squareInto d).respond .ok 0#32) := rfl

@[simp] theorem exec_mvmul (b : Bank) (s : State) :
    exec (.mvmul b) s = .next
      (((s.dependsOn (s.productDefined b)).setCrc1 (s.product b)).respond .ok (s.product b)) := rfl

theorem exec_combine_zero {s : State} (h : s.len = 0#32) :
    exec .combine s = .next ((s.dependsOn s.acceptanceDefined).setDone.respond .ok s.crc1) := by
  simp [exec, execCombine, h]

theorem exec_combine_ne_zero {s : State} (h : s.len ≠ 0#32) :
    exec .combine s = .next ((s.dependsOn s.acceptanceDefined).clearDone.setPhase .cInit) := by
  simp [exec, execCombine, h]

/-- No instruction stops: every one answers a next state (R210). -/
theorem exec_next (i : Instr) (s : State) : ∃ t, exec i s = .next t := by
  cases i <;> exact ⟨_, rfl⟩

end Sys2Proof.Machine
end

