-- ==== Sys2Proof/Tests/Slice0.lean ====
section
/-! SUPPORT. Tests of one step each, with values from 95_test_vectors.md and the encodings of
30_encoding.md; and for each statement with hypotheses a witness that meets them. -/

namespace Sys2Proof.Tests

open Sys2Proof.Machine

/-! ## Helpers -/

/-- A field of the state a step answers with. -/
def after {α : Type} (o : Host.Outcome State Fault Refusal) (f : State → α) : Option α :=
  match o with
  | .next t => some (f t)
  | .fault _ => none
  | .refused _ => none

/-- Whether an outcome is a next state. -/
def answers (o : Host.Outcome State Fault Refusal) : Bool := (after o fun _ => ()).isSome

/-- The operands of P1 with the length `n`, all written, the host silent (section 6). -/
def loaded (n : Word) : State :=
  ((State.reset.setCrc1 0x44B329EA#32).setCrc2 0x01D41B76#32).setLen n

/-- `loaded n` with the words `ws` presented. -/
def presenting (n : Word) (ws : List (BitVec 16)) : State :=
  { loaded n with cmdIn := ws.map fun w => some ⟨w, 5#32⟩ }

/-- `loaded n` in phase `p`. -/
def inPhase (n : Word) (p : Phase) : State := (loaded n).setPhase p

/-- OP(4), the table of section 3. -/
def op4 : Matrix :=
  #v[0x1DB71064, 0x3B6E20C8, 0x76DC4190, 0xEDB88320, 0x00000001, 0x00000002, 0x00000004, 0x00000008,
     0x00000010, 0x00000020, 0x00000040, 0x00000080, 0x00000100, 0x00000200, 0x00000400, 0x00000800,
     0x00001000, 0x00002000, 0x00004000, 0x00008000, 0x00010000, 0x00020000, 0x00040000, 0x00080000,
     0x00100000, 0x00200000, 0x00400000, 0x00800000, 0x01000000, 0x02000000, 0x04000000, 0x08000000]

/-- OP(8), the table of section 3. -/
def op8 : Matrix :=
  #v[0x77073096, 0xEE0E612C, 0x076DC419, 0x0EDB8832, 0x1DB71064, 0x3B6E20C8, 0x76DC4190, 0xEDB88320,
     0x00000001, 0x00000002, 0x00000004, 0x00000008, 0x00000010, 0x00000020, 0x00000040, 0x00000080,
     0x00000100, 0x00000200, 0x00000400, 0x00000800, 0x00001000, 0x00002000, 0x00004000, 0x00008000,
     0x00010000, 0x00020000, 0x00040000, 0x00080000, 0x00100000, 0x00200000, 0x00400000, 0x00800000]

/-! ## WellFormed refuses what it should (R76: WRS takes r in 0..2) -/

theorem test_wf_refuses_wrs_status : ¬ (Instr.wrs .status 0).WellFormed := by decide
theorem test_wf_accepts_rds_status : (Instr.rds .status).WellFormed := by decide

/-! ## Each constructor's word, written out bit by bit from R73 to R76 -/

theorem test_decode_nop : decode ⟨0b0000_000_0_000_00000, 9⟩ = .ok .nop := by rfl
theorem test_decode_wrs : decode ⟨0b0001_000_0_000_00001, 9⟩ = .ok (.wrs .crc2 9) := by rfl
theorem test_decode_rds : decode ⟨0b0010_000_0_000_00010, 9⟩ = .ok (.rds .len) := by rfl
theorem test_decode_wrrow : decode ⟨0b0011_000_0_000_00101, 0x20⟩ = .ok (.wrrow .even 5 0x20) := by rfl
theorem test_decode_rdrow : decode ⟨0b0100_000_1_000_11111, 9⟩ = .ok (.rdrow .odd 31) := by rfl
theorem test_decode_minit : decode ⟨0b0101_000_0_000_00000, 9⟩ = .ok .minit := by rfl
theorem test_decode_msquare : decode ⟨0b0110_000_1_000_00000, 9⟩ = .ok (.msquare .odd) := by rfl
theorem test_decode_mvmul : decode ⟨0b0111_000_1_000_00000, 9⟩ = .ok (.mvmul .odd) := by rfl
theorem test_decode_combine : decode ⟨0b1000_000_0_000_00000, 9⟩ = .ok .combine := by rfl

/-- The rejected words of section 4.5, in its order. -/
def rejected (e : Reject) (ws : List (BitVec 16)) : Bool :=
  ws.all fun w =>
    match decode ⟨w, 0⟩ with
    | .ok _ => false
    | .error e' => e' == e

theorem test_decode_eField_access : rejected .eField
    [0x0001, 0x0010, 0x0100, 0x0800, 0x0FFF, 0x1004, 0x1007, 0x1020, 0x1100, 0x1103, 0x1800, 0x2004, 0x2007,
     0x2100, 0x2010] = true := by decide
theorem test_decode_eField_others : rejected .eField
    [0x3020, 0x3040, 0x3080, 0x3200, 0x3400, 0x3800, 0x31E0, 0x4020, 0x4200, 0x4FFF, 0x5001, 0x5100, 0x6001,
     0x601F, 0x6200, 0x6101, 0x7001, 0x7080, 0x7300, 0x8001, 0x8100, 0x8002] = true := by decide
theorem test_decode_eOpcode : rejected .eOpcode
    [0x9000, 0x9003, 0xA000, 0xB123, 0xC000, 0xD000, 0xE000, 0xF000, 0xFFFF] = true := by decide
theorem test_decode_eAccess : rejected .eAccess [0x1003] = true := by decide

/-- R81: the words of the assembler table. -/
theorem test_encode_words :
    ([.nop, .wrs .len 7, .rds .status, .wrrow .odd 31 7, .rdrow .even 5, .minit, .msquare .odd, .mvmul .even,
      .combine] : List Instr).map (fun i => (encode i).cmd) =
    [0x0000, 0x1002, 0x2003, 0x311F, 0x4005, 0x5000, 0x6100, 0x7000, 0x8000] := by decide

theorem test_table_word : decodeTableWord 16 0x3105 = some (.wrrow .odd 5 0) := by rfl
theorem test_table_word_with_data : decodeTableWord 48 0xDEADBEEF1002 = some (.wrs .len 0xDEADBEEF) := by rfl

/-! ## Reset and the first instruction after it (sections 4.6, 6) -/

theorem test_reset_idle : after (step State.reset) (·.ph) = some .idle := by rfl
theorem test_first_instruction_runs :
    [0x0000, 0x1000, 0x2000, 0x3000, 0x4000, 0x5000, 0x6000, 0x7000, 0x8000].all
      (fun w => answers (step (State.reset.withFetchWord 16 w))) = true := by decide
theorem test_nop_after_reset :
    after (step (State.reset.withFetchWord 16 0x0000)) (·.rsp) = some (some ⟨.ok, 0⟩) := by rfl
theorem test_rds_status_after_reset :
    after (step (State.reset.withFetchWord 16 0x2003)) (·.rsp) = some (some ⟨.ok, 0⟩) := by rfl
/-- Section 4.6: RDS of an unwritten register is where the spec's model faults; it is recorded here. -/
theorem test_rds_unwritten_recorded :
    after (step (State.reset.withFetchWord 16 0x2002)) (·.recorded) = some (some .readUnwritten) := by rfl
/-- P6: a reset in the middle of a COMBINE. -/
theorem test_reset_while_busy :
    after (step { inPhase 5 .cSqo with rstIn := [true] }) (fun t => (t.ph, t.done, t.rsp)) =
      some (.idle, false, none) := by rfl

/-! ## The instructions (sections 4.1 to 4.4) -/

theorem test_wrs_len_all_ones : after (exec (.wrs .len 0xFFFFFFFF) State.reset) (·.len.toNat) = some 4294967295 := by
  decide
theorem test_wrs_status_rejected :
    after (step { presenting 1 [0x1003] with done := true }) (fun t => (t.rsp, t.done)) =
      some (some ⟨.eAccess, 0⟩, true) := by decide
theorem test_rds_status_keeps_done :
    after (exec (.rds .status) (loaded 1).setDone) (fun t => (t.rsp, t.done)) = some (some ⟨.ok, 1⟩, true) := by
  decide
theorem test_wrrow_odd_31 : after (exec (.wrrow .odd 31 0x12345678) State.reset) (fun t => t.readRow .odd 31) =
    some 0x12345678 := by decide
theorem test_rdrow_banks_apart :
    after (exec (.rdrow .even 31) (({ loaded 1 with even := op4 }).setRow .odd 31 0x12345678)) (·.rsp) =
      some (some ⟨.ok, 0x08000000⟩) := by decide
/-- R153's worked example. -/
theorem test_minit_rows :
    after (exec .minit State.reset) (fun t => (t.readRow .odd 0, t.readRow .odd 1, t.readRow .odd 31)) =
      some (0xEDB88320, 0x00000001, 0x40000000) := by decide
/-- R126's worked example: rows 0 and 1 of OP(2). -/
theorem test_msquare_even_of_base :
    after (exec (.msquare .even) { loaded 1 with odd := base }) (fun t => (t.readRow .even 0, t.readRow .even 1)) =
      some (0x76DC4190, 0xEDB88320) := by decide +kernel
/-- Section 3: the whole of OP(8) from OP(4). -/
theorem test_square_op4 : square op4 = op8 := by decide +kernel
/-- R107's worked example. -/
theorem test_mvmul_base_3 :
    after (exec (.mvmul .odd) ({ loaded 1 with odd := base }.setCrc1 3)) (fun t => (t.crc1, t.rsp)) =
      some (0xEDB88321, some ⟨.ok, 0xEDB88321⟩) := by decide
/-- Section 4.1: a product that selects no row needs no row, so nothing is recorded. -/
theorem test_mvmul_zero_reads_no_row :
    after (exec (.mvmul .even) (State.reset.setCrc1 0)) (·.recorded) = some none := by decide
theorem test_mvm_all_rows : mvm op8 0xFFFFFFFF = 0x2DFD1072 := by decide
theorem test_mvm_deadbeef : mvm op8 0xDEADBEEF = 0x306B5257 := by decide
theorem test_mvmLoop_deadbeef : mvmLoop op8 32 0 0xDEADBEEF 0 = 0x306B5257 := by decide
/-- Section 4.3: the degenerate COMBINE answers CRC1, not CRC1 ^ CRC2. -/
theorem test_combine_degenerate :
    after (exec .combine (loaded 0)) (fun t => (t.rsp, t.done, t.ph)) =
      some (some ⟨.ok, 0x44B329EA⟩, true, .idle) := by decide
theorem test_combine_accepted :
    after (exec .combine (loaded 1).setDone) (fun t => (t.rsp, t.done, t.ph)) = some (none, false, .cInit) := by
  decide

/-! ## The phases, from the traces of P1 (section 6) -/

theorem test_phase_init : after (step (inPhase 1 .cInit)) (fun t => (t.readRow .odd 0, t.ph)) =
    some (0xEDB88320, .cSq0) := by decide
theorem test_phase_ape_applies_and_stops :
    after (step { inPhase 1 .cApe with even := op8 }) (fun t => (t.crc1, t.len, t.ph)) =
      some (0x409BB84F, 0, .cFin) := by decide
theorem test_phase_ape_bit_clear :
    after (step { inPhase 0x18 .cApe with even := op8 }) (fun t => (t.crc1, t.len, t.ph)) =
      some (0x44B329EA, 0xC, .cSqo) := by decide
theorem test_phase_apo_goes_on : after (step (inPhase 6 .cApo)) (fun t => (t.len, t.ph)) = some (3, .cSqe) := by
  decide
theorem test_phase_fin :
    after (step ((inPhase 0 .cFin).setCrc1 0x409BB84F)) (fun t => (t.crc1, t.done, t.ph, t.rsp)) =
      some (0x414FA339, true, .idle, some ⟨.ok, 0x414FA339⟩) := by decide

/-! ## The host's side (sections 2.4, 2.5) -/

theorem test_crc32_check_value :
    crc32 [0x31, 0x32, 0x33, 0x34, 0x35, 0x36, 0x37, 0x38, 0x39] = 0xCBF43926 := by decide +kernel
theorem test_multiCombine_one_refused :
    (multiCombine [⟨some 0x884863D2, some 3⟩], multiCombineCommands [⟨some 0x884863D2, some 3⟩]) =
      (.error .invalidArgument, []) := by rfl
/-- R182, R187: a missing field is invalid-argument and issues nothing. -/
theorem test_multiCombine_incomplete_refused :
    (multiCombine [⟨some 1, some 3⟩, ⟨some 2, none⟩], multiCombineCommands [⟨some 1, some 3⟩, ⟨some 2, none⟩]) =
      (.error .invalidArgument, []) := by rfl
/-- R187's procedure for three pairs, 1 + 3 * 2 commands. -/
theorem test_multiCombine_commands :
    multiCombineCommands ([(1, 3), (2, 0), (3, 5)].map PairArg.ofPair) =
      [.wrs .crc1 1, .wrs .crc2 2, .wrs .len 0, .combine, .wrs .crc2 3, .wrs .len 5, .combine] := by rfl
/-- R180: a pair with `len = 0` leaves the running CRC; R184: the total does not wrap at 32 bits. -/
theorem test_multiCombine_zero_length :
    multiCombine ([(0x44B329EA, 0xFFFFFFFF), (7, 0)].map PairArg.ofPair) = .ok (0x44B329EA, 0xFFFFFFFF) := by rfl
theorem test_multiCombine_total_wide :
    (Fold.total ⟨(0, 0xFFFFFFFF), [(0, 0xFFFFFFFF)]⟩).toNat = 8589934590 := by rfl

/-! ## Witnesses: what meets the hypotheses of each statement -/

/-- StepRunsDecodedInstruction, WrsFrame's and the other instructions' cases of a step. -/
theorem test_wit_step_runs : ∃ c rest i, (presenting 1 [0x8000]).rstNow = false ∧ (presenting 1 [0x8000]).ph = .idle ∧
    (presenting 1 [0x8000]).cmdIn = some c :: rest ∧ decode c = .ok i := ⟨_, _, .combine, rfl, rfl, rfl, rfl⟩

theorem test_wit_rejection : ∀ w ∈ [0x9000#16, 0x8001#16, 0x1003#16], ∃ c rest e, (presenting 1 [w]).rstNow = false ∧
    (presenting 1 [w]).ph = .idle ∧ (presenting 1 [w]).cmdIn = some c :: rest ∧ decode c = .error e := by
  intro w hw
  simp only [List.mem_cons, List.not_mem_nil, or_false] at hw
  rcases hw with rfl | rfl | rfl <;> exact ⟨_, _, _, rfl, rfl, rfl, rfl⟩

theorem test_wit_busy_waits : ∃ c rest, ((presenting 1 [0x1000]).setPhase .cSqe).rstNow = false ∧
    ((presenting 1 [0x1000]).setPhase .cSqe).ph ≠ .idle ∧
    ((presenting 1 [0x1000]).setPhase .cSqe).cmdIn = some c :: rest := ⟨_, _, rfl, by decide, rfl⟩

theorem test_wit_silent : State.reset.rstNow = false ∧ State.reset.ph = .idle ∧ State.reset.presented = none ∧
    ({ State.reset with cmdIn := [none] } : State).presented = none := ⟨rfl, rfl, rfl, rfl⟩

/-- ResetStep and its clause on a held command, and ResetAbortsCombine. -/
theorem test_wit_reset : ({ presenting 1 [0x8000] with rstIn := [true] } : State).rstNow = true ∧
    ({ inPhase 5 .cSqo with rstIn := [true] } : State).rstNow = true ∧
    ∀ c ∈ ({ inPhase 5 .cSqo with rstIn := [true] } : State).cmdIn, c = none := ⟨rfl, rfl, by decide⟩

theorem test_wit_roundtrip : (Instr.wrs .len 5).WellFormed ∧ (Instr.wrrow .odd 31 5).WellFormed := by decide

theorem test_wit_legal_word : decode ⟨0x411F, 7⟩ = .ok (.rdrow .odd 31) := by rfl

/-- DecodeOrder's four clauses at the boundaries 9, 8 and selector 3. -/
theorem test_wit_decode_order :
    9 ≤ ((0x9000#16) >>> 12).toNat ∧ ((0x8001#16) >>> 12).toNat < 9 ∧ (0x8001#16) &&& 0x0FFF#16 ≠ 0 ∧
    ((0x1003#16) >>> 12).toNat = 1 ∧ (0x1003#16) &&& 0x0FFC#16 = 0 ∧ (0x1003#16) &&& 3 = 3 ∧
    (0x8000#16) &&& 0x0FFF#16 = 0 ∧ (0x1002#16) &&& 0x0FFC#16 = 0 ∧ ¬ (0x1002#16) &&& 3 = 3 := by decide

theorem test_wit_access_error : (presenting 1 [0x1003]).rstNow = false ∧ (presenting 1 [0x1003]).ph = .idle ∧
    ∃ v rest, (presenting 1 [0x1003]).cmdIn = some ⟨0x1003#16, v⟩ :: rest := ⟨rfl, rfl, _, _, rfl⟩

/-- CombineAcceptance's two clauses, and the two of CombineRefinesFunction and CombineEndState. -/
theorem test_wit_combine : (loaded 0).len = 0#32 ∧ (loaded 1).len ≠ 0#32 ∧
    ∃ t, exec .combine (loaded 1) = .next t ∧ noReset (4 + 2 * bitlen (loaded 1).len.toNat) t = true :=
  ⟨rfl, by decide, _, exec_combine_ne_zero (by decide), by decide⟩

/-- The frames, UnwrittenUseIsRecorded: every instruction answers a next state. -/
theorem test_wit_frames (i : Instr) : ∃ t, exec i (loaded 1) = .next t := exec_next i _

/-- MvmulIgnoresUnselectedRows: two states that differ in row 1, with CRC1 = 1. -/
theorem test_wit_unselected_row :
    ((loaded 1).setCrc1 1).crc1 = (((loaded 1).setCrc1 1).setRow .odd 1 5).crc1 ∧
    ∀ k : Fin 32, ((loaded 1).setCrc1 1).crc1.getLsbD k = true →
      ((loaded 1).setCrc1 1).readRow .odd k = (((loaded 1).setCrc1 1).setRow .odd 1 5).readRow .odd k := by
  refine ⟨rfl, fun k hk => ?_⟩
  have h0 : k = 0 := by
    revert k
    decide
  subst h0
  rfl

theorem test_wit_crc2_changes : ∃ t, step (presenting 1 [0x1001]) = .next t ∧
    (presenting 1 [0x1001]).rstNow = false ∧ t.crc2 ≠ (presenting 1 [0x1001]).crc2 :=
  ⟨_, rfl, rfl, by decide⟩

/-- DoneFlagRule's clauses: C_FIN, a COMBINE accepted, any other step. -/
theorem test_wit_done : (inPhase 0 .cFin).rstNow = false ∧ (inPhase 0 .cFin).ph = .cFin ∧
    (presenting 1 [0x8000]).ph = .idle ∧
    (∃ c, (presenting 1 [0x8000]).presented = some c ∧ decode c = .ok .combine) ∧
    (inPhase 1 .cSqe).ph ≠ .cFin ∧ (inPhase 1 .cSqe).ph ≠ .idle :=
  ⟨rfl, rfl, rfl, ⟨_, rfl, rfl⟩, by decide, by decide⟩

theorem test_wit_row_changes : ∃ t, step ({ presenting 1 [0x311F] with odd := op4 } : State) = .next t ∧
    ({ presenting 1 [0x311F] with odd := op4 } : State).rstNow = false ∧
    t.readRow .odd 31 ≠ ({ presenting 1 [0x311F] with odd := op4 } : State).readRow .odd 31 :=
  ⟨_, rfl, rfl, by decide⟩

/-- PhaseTransitions' tests of the length at 0, 1 and 2, and its two clauses for IDLE. -/
theorem test_wit_transitions : (inPhase 1 .cApe).len.toNat ≤ 1 ∧ ¬ (inPhase 2 .cApe).len.toNat ≤ 1 ∧
    (inPhase 0 .cApo).len.toNat ≤ 1 ∧ ¬ (inPhase 2 .cApo).len.toNat ≤ 1 ∧
    (presenting 1 [0x8000]).presented.map (·.cmd) = some 0x8000#16 ∧
    ¬ ((presenting 0 [0x8000]).presented.map (·.cmd) = some 0x8000#16 ∧ (presenting 0 [0x8000]).len ≠ 0#32) := by
  decide

/-- The phase statements, one state for each phase. -/
theorem test_wit_phases (p : Phase) : (inPhase 1 p).rstNow = false ∧ (inPhase 1 p).ph = p :=
  ⟨rfl, rfl⟩

theorem test_wit_noReset : noReset 68 (inPhase 0xFFFFFFFF .cInit) = true := by decide

/-- The invariants hold in states with a COMBINE in flight. -/
theorem test_wit_invariants :
    LengthInv (inPhase 1 .cApe) ∧ DoneInv (inPhase 1 .cApe) ∧
    BankInv { inPhase 1 .cSqe with odd := op 2, even := op 1 } ∧
    MarksInv (((inPhase 1 .cSq0).setBank .odd base)) :=
  ⟨(by decide : (1#32) ≠ 0#32), fun _ => rfl, ⟨0, rfl, rfl⟩, fun k => by revert k; decide⟩

/-- UnwrittenValuesNeverShow: two states that differ in the unwritten CRC2, and a step that records nothing. -/
theorem test_wit_agree :
    AgreeOnWritten (State.reset.setCrc1 1) { State.reset.setCrc1 1 with crc2 := 7#32 } ∧
    ∃ t, step (State.reset.setCrc1 1) = .next t ∧ Safe t :=
  ⟨⟨rfl, rfl, rfl, rfl, rfl, rfl, rfl, fun _ => rfl, (fun h => by cases h), fun _ => rfl, fun _ _ _ => rfl⟩,
    _, rfl, rfl⟩

theorem test_wit_loop_fuel : bitlen (0#32).toNat ≤ 0 ∧ bitlen (0xFFFFFFFF#32).toNat ≤ 32 := by decide

/-- ProductLaws (d), (h) and SquareLaws (c), (e). -/
theorem test_wit_laws :
    (∀ i : Fin 32, (Vector.replicate 32 3#32)[i] = (Vector.replicate 32 1#32)[i] ^^^ (Vector.replicate 32 2#32)[i]) ∧
    (∀ i : Fin 32, (0#32).getLsbD i = true → op4[i] = op8[i]) ∧
    (∀ v, mvm base v = (mvm base)^[1] v) :=
  ⟨by decide, by decide, fun _ => rfl⟩

theorem test_wit_closed_form : (1#32) ≠ 0#32 ∧ (1#32).toNat + (0xFFFFFFFE#32).toNat < 2 ^ 32 ∧ (0xFFFFFFFE#32) ≠ 0#32 := by
  decide

/-- CombineGivesCrcOfConcatenation at a length of 1 bit, and MultiCombineGivesCrcOfConcatenation. -/
theorem test_wit_guarantee : ([7#8] : List (BitVec 8)).length < 2 ^ 1 ∧
    2 ≤ ([[7#8], []] : List (List (BitVec 8))).length ∧
    (∀ B ∈ ([[7#8], []] : List (List (BitVec 8))), B.length < 2 ^ 32) ∧
    ([[7#8], []] : List (List (BitVec 8))).flatten.length < 2 ^ 64 := by decide

/-- HostProcedureChecksThenFolds: the refused, at their boundaries, and the host's length test. -/
theorem test_wit_host_checks : ([⟨some 1, some 1⟩] : List PairArg).length < 2 ∧
    (∃ a ∈ ([⟨some 1, none⟩, ⟨some 1, some 1⟩] : List PairArg), a.crc = none ∨ a.len = none) ∧
    (0 : Int) ≤ 0 ∧ 0 < 4294967295 ∧ 4294967295 < 2 ^ 32 ∧ (2 : Int) ^ 32 ≤ 4294967296 := by
  refine ⟨by decide, ⟨⟨some 1, none⟩, by simp, .inr rfl⟩, by decide, by decide, by decide, by decide⟩

/-- HostProcedureChecksThenFolds: a fold whose total reaches 2^64, which takes more than 2^32 pairs (R188). -/
theorem test_wit_host_overflow : ∃ ps : List (Word × Word), 2 ≤ ps.length ∧ 2 ^ 64 ≤ trueTotal ps := by
  obtain ⟨n, hn⟩ : ∃ n : Nat, n = 2 ^ 33 := ⟨_, rfl⟩
  refine ⟨List.replicate n (0, 0xFFFFFFFF), ?_, ?_⟩
  · rw [List.length_replicate]
    omega
  · rw [trueTotal_replicate]
    have h : ((0, 0xFFFFFFFF) : Word × Word).2.toNat = 4294967295 := rfl
    rw [h]
    omega

/-- HostProcedureChecksThenFolds: the least fold, and the idle block with its commands presented. -/
theorem test_wit_host_fold :
    [((2, 5) : Word × Word)] ≠ [] ∧ trueTotal [(1, 3), (2, 5)] < 2 ^ 64 ∧
    ∃ s : State, s.ph = .idle ∧
      s.cmdIn = presentAll (multiCombineCommands ([(1, 3), (2, 5)].map PairArg.ofPair)) ∧ noReset 142 s = true :=
  ⟨by simp, by decide,
    { State.reset with cmdIn := presentAll (multiCombineCommands ([(1, 3), (2, 5)].map PairArg.ofPair)) },
    rfl, rfl, by decide⟩

theorem test_wit_associates : ([7#8] : List (BitVec 8)).length + ([] : List (BitVec 8)).length < 2 ^ 32 ∧
    (1#32) ≠ 0#32 ∧ (1#32).toNat + (1#32).toNat < 2 ^ 32 := by decide

end Sys2Proof.Tests
end

/-! ## The state's operations, phases and instructions: what each depends on, and what each can change -/

namespace Sys2Proof.Machine

/-! ### A whole bank written (R31) -/

theorem State.readRow_setBank (s : State) (b c : Bank) (M : Matrix) (k : Fin 32) :
    (s.setBank b M).readRow c k = if c = b then M[k] else s.readRow c k := by
  unfold State.readRow
  rw [State.bank_setBank]
  split <;> rfl

theorem State.rowDefined_setBank (s : State) (b c : Bank) (M : Matrix) (k : Fin 32) :
    (s.setBank b M).rowDefined c k = (decide (c = b) || s.rowDefined c k) := by
  unfold State.rowDefined
  rw [State.bankMarks_setBank]
  by_cases hc : c = b <;> simp [hc]

/-! ### The marks an operation asks for -/

theorem State.bankDefined_iff (s : State) (b : Bank) :
    s.bankDefined b = true ↔ ∀ k, s.rowDefined b k = true := by
  simp [State.bankDefined]

/-- A product depends on CRC1 and on the rows that CRC1 selects (R108). -/
theorem State.productDefined_iff (s : State) (b : Bank) :
    s.productDefined b = true ↔
      s.written.crc1 = true ∧ ∀ k : Fin 32, s.crc1.getLsbD k = true → s.rowDefined b k = true := by
  simp [State.productDefined, Decidable.imp_iff_not_or]

/-- The acceptance of a COMBINE depends on LEN, and on CRC1 when it answers with it (R168). -/
theorem State.acceptanceDefined_iff (s : State) :
    s.acceptanceDefined = true ↔ s.written.len = true ∧ (s.len = 0#32 → s.written.crc1 = true) := by
  simp [State.acceptanceDefined, Decidable.imp_iff_not_or]

/-- A product does not see the rows at positions where the vector has a zero (R105 (h)). -/
theorem mvm_congr {M N : Matrix} {v : Word} (h : ∀ k : Fin 32, v.getLsbD k = true → M[k] = N[k]) :
    mvm M v = mvm N v := by
  unfold mvm
  congr 1
  refine List.map_congr_left fun k _ => ?_
  split
  · exact h k ‹_›
  · rfl

/-! ### When an operation that reads elements records nothing (R38) -/

theorem State.safe_squareInto_iff (s : State) (d : Bank) :
    Safe (s.squareInto d) ↔ Safe s ∧ ∀ k, s.rowDefined (otherBank d) k = true := by
  rw [← State.bankDefined_iff, ← State.dependsOn_recorded_none, State.squareInto, Safe, State.setBank_recorded]

/-- An apply half depends on LEN, and with bit 0 of it set on the product (R168). -/
theorem State.safe_applyShift_iff (s : State) (b : Bank) (again : Phase) :
    Safe (s.applyShift b again) ↔ Safe s ∧ s.written.len = true ∧
      (s.len.getLsbD 0 = true → s.productDefined b = true) := by
  cases hbit : s.len.getLsbD 0 with
  | false => simp [State.applyShift_of_no_bit hbit, Safe, State.dependsOn_recorded_none, -State.dependsOn_recorded]
  | true => simp [State.applyShift_of_bit hbit, Safe, State.dependsOn_recorded_none, -State.dependsOn_recorded]

theorem State.safe_phaseFin_iff (s : State) :
    Safe s.phaseFin ↔ Safe s ∧ s.written.crc1 = true ∧ s.written.crc2 = true := by
  rw [← Bool.and_eq_true, ← State.dependsOn_recorded_none]
  exact Iff.rfl

/-! ### The step of a busy and of an idle block -/

theorem State.busy_iff (s : State) : s.busy = true ↔ s.ph ≠ .idle := by
  simp [State.busy]

theorem State.not_busy_iff (s : State) : s.busy = false ↔ s.ph = .idle := by
  simp [State.busy]

/-- Outside IDLE the coming step is the phase's, on the state with its pins passed on (R217). -/
theorem step_of_phase {s : State} (hr : s.rstNow = false) (hp : s.ph ≠ .idle) :
    step s = .next s.tick.phaseStep :=
  step_of_busy hr (s.busy_iff.mpr hp)

/-- In IDLE a legal command on the port is run on the state from which it is taken (R71, R77). -/
theorem step_of_legal {s : State} {c : Command} {i : Instr} (hr : s.rstNow = false) (hp : s.ph = .idle)
    (hc : s.presented = some c) (hd : decode c = .ok i) : step s = exec i s.accept := by
  rw [step_of_presented hr (s.not_busy_iff.mpr hp) hc, runCommand_ok hd]

theorem State.phaseStep_of_cApe {s : State} (h : s.ph = .cApe) : s.phaseStep = s.applyShift .even .cSqo := by
  rw [State.phaseStep, h, State.phaseApe]

theorem State.phaseStep_of_cApo {s : State} (h : s.ph = .cApo) : s.phaseStep = s.applyShift .odd .cSqe := by
  rw [State.phaseStep, h, State.phaseApo]

theorem State.phaseStep_of_cFin {s : State} (h : s.ph = .cFin) : s.phaseStep = s.phaseFin := by
  rw [State.phaseStep, h]

/-- Everything the engine's step can be: nothing while IDLE, else one of the four operations of a COMBINE. -/
theorem State.phaseStep_cases (s : State) :
    (s.ph = .idle ∧ s.phaseStep = s) ∨
    (s.ph = .cInit ∧ s.phaseStep = s.loadBase.setPhase .cSq0) ∨
    (∃ p, (s.ph = .cSq0 ∨ s.ph = .cSqe) ∧ s.phaseStep = (s.squareInto .even).setPhase p) ∨
    (∃ p, (s.ph = .cSq1 ∨ s.ph = .cSqo) ∧ s.phaseStep = (s.squareInto .odd).setPhase p) ∨
    (∃ b again, (s.ph = .cApe ∨ s.ph = .cApo) ∧ s.phaseStep = s.applyShift b again) ∨
    (s.ph = .cFin ∧ s.phaseStep = s.phaseFin) := by
  unfold State.phaseStep
  cases s.ph with
  | idle => exact .inl ⟨rfl, rfl⟩
  | cInit => exact .inr (.inl ⟨rfl, rfl⟩)
  | cSq0 => exact .inr (.inr (.inl ⟨_, .inl rfl, rfl⟩))
  | cSqe => exact .inr (.inr (.inl ⟨_, .inr rfl, rfl⟩))
  | cSq1 => exact .inr (.inr (.inr (.inl ⟨_, .inl rfl, rfl⟩)))
  | cSqo => exact .inr (.inr (.inr (.inl ⟨_, .inr rfl, rfl⟩)))
  | cApe => exact .inr (.inr (.inr (.inr (.inl ⟨_, _, .inl rfl, rfl⟩))))
  | cApo => exact .inr (.inr (.inr (.inr (.inl ⟨_, _, .inr rfl, rfl⟩))))
  | cFin => exact .inr (.inr (.inr (.inr (.inr ⟨rfl, rfl⟩))))

/-! ### CRC2, DONE and the rows through the shared operations -/

@[simp] theorem State.squareInto_crc2 (s : State) (d : Bank) : (s.squareInto d).crc2 = s.crc2 := by
  simp [State.squareInto]

@[simp] theorem State.squareInto_done (s : State) (d : Bank) : (s.squareInto d).done = s.done := by
  simp [State.squareInto]

@[simp] theorem State.loadBase_crc2 (s : State) : s.loadBase.crc2 = s.crc2 := rfl

@[simp] theorem State.loadBase_done (s : State) : s.loadBase.done = s.done := rfl

@[simp] theorem State.applyShift_crc2 (s : State) (b : Bank) (again : Phase) :
    (s.applyShift b again).crc2 = s.crc2 := by
  obtain ⟨-, hcrc2, -⟩ := s.applyShift_fields b again
  exact hcrc2

@[simp] theorem State.applyShift_done (s : State) (b : Bank) (again : Phase) :
    (s.applyShift b again).done = s.done := by
  obtain ⟨-, -, -, -, -, -, hdone, -⟩ := s.applyShift_fields b again
  exact hdone

@[simp] theorem State.applyShift_readRow (s : State) (b c : Bank) (again : Phase) (k : Fin 32) :
    (s.applyShift b again).readRow c k = s.readRow c k := by
  obtain ⟨-, -, -, heven, hodd, -⟩ := s.applyShift_fields b again
  cases c <;> simp [State.readRow, heven, hodd]

@[simp] theorem State.phaseFin_crc2 (s : State) : s.phaseFin.crc2 = s.crc2 := rfl

@[simp] theorem State.phaseFin_done (s : State) : s.phaseFin.done = true := rfl

@[simp] theorem State.phaseFin_readRow (s : State) (b : Bank) (k : Fin 32) :
    s.phaseFin.readRow b k = s.readRow b k := by
  simp [State.phaseFin]

/-- A write to a scalar leaves every row. -/
@[simp] theorem State.writeScalar_readRow (s : State) (r : Scalar) (v : Word) (b : Bank) (k : Fin 32) :
    (s.writeScalar r v).readRow b k = s.readRow b k := by
  cases r <;> simp [State.writeScalar]

@[simp] theorem State.writeScalar_done (s : State) (r : Scalar) (v : Word) :
    (s.writeScalar r v).done = s.done := by
  cases r <;> rfl

@[simp] theorem State.writeScalar_recorded (s : State) (r : Scalar) (v : Word) :
    (s.writeScalar r v).recorded = s.recorded := by
  cases r <;> rfl

/-! ### What an engine step does to CRC2, DONE and the rows -/

/-- The engine never writes CRC2 (R22). -/
@[simp] theorem State.phaseStep_crc2 (s : State) : s.phaseStep.crc2 = s.crc2 := by
  obtain ⟨-, h⟩ | ⟨-, h⟩ | ⟨p, -, h⟩ | ⟨p, -, h⟩ | ⟨b, again, -, h⟩ | ⟨-, h⟩ := s.phaseStep_cases <;> simp [h]

/-- C_FIN alone of the phases touches DONE (R27). -/
theorem State.phaseStep_done {s : State} (hp : s.ph ≠ .cFin) : s.phaseStep.done = s.done := by
  obtain ⟨-, h⟩ | ⟨-, h⟩ | ⟨p, -, h⟩ | ⟨p, -, h⟩ | ⟨b, again, -, h⟩ | ⟨hfin, -⟩ := s.phaseStep_cases
  case inr.inr.inr.inr.inr => exact absurd hfin hp
  all_goals simp [h]

/-- The phases that write bank `b` are C_INIT and the squarings into it (R31). -/
theorem State.phaseStep_readRow (s : State) (b : Bank) (k : Fin 32) :
    s.phaseStep.readRow b k = s.readRow b k ∨
    (b = .odd ∧ (s.ph = .cInit ∨ s.ph = .cSq1 ∨ s.ph = .cSqo)) ∨
    (b = .even ∧ (s.ph = .cSq0 ∨ s.ph = .cSqe)) := by
  obtain ⟨-, h⟩ | ⟨hp, h⟩ | ⟨p, hp, h⟩ | ⟨p, hp, h⟩ | ⟨a, again, -, h⟩ | ⟨-, h⟩ := s.phaseStep_cases
  · simp [h]
  · cases b <;> simp [h, hp]
  · cases b <;> simp [h, hp]
  · cases b <;> simp [h, hp]
  · simp [h]
  · simp [h]

/-! ### What an instruction does to CRC2, DONE and the rows -/

/-- Both ways a COMBINE is accepted (R154). -/
theorem exec_combine_cases {s t : State} (h : exec .combine s = .next t) :
    (s.len = 0#32 ∧ t = (s.dependsOn s.acceptanceDefined).setDone.respond .ok s.crc1) ∨
    (s.len ≠ 0#32 ∧ t = (s.dependsOn s.acceptanceDefined).clearDone.setPhase .cInit) := by
  by_cases hz : s.len = 0#32
  · rw [exec_combine_zero hz] at h
    cases h
    exact .inl ⟨hz, rfl⟩
  · rw [exec_combine_ne_zero hz] at h
    cases h
    exact .inr ⟨hz, rfl⟩

/-- Of the instructions only WRS of CRC2 writes it (R22). -/
theorem exec_crc2 {i : Instr} {s t : State} (h : exec i s = .next t) :
    t.crc2 = s.crc2 ∨ i = .wrs .crc2 t.crc2 := by
  cases i with
  | combine => obtain ⟨-, rfl⟩ | ⟨-, rfl⟩ := exec_combine_cases h <;> exact .inl rfl
  | wrs r v =>
    cases h
    cases r with
    | crc2 => exact .inr rfl
    | crc1 => exact .inl rfl
    | len => exact .inl rfl
    | status => exact .inl rfl
  | _ =>
    cases h
    exact .inl (by simp)

/-- The acceptance of a COMBINE leaves DONE exactly if LEN is 0 (R27, R154). -/
theorem exec_combine_done {s t : State} (h : exec .combine s = .next t) : t.done = true ↔ s.len = 0#32 := by
  obtain ⟨hz, rfl⟩ | ⟨hz, rfl⟩ := exec_combine_cases h <;> simp [hz]

/-- No other instruction touches DONE (R27). -/
theorem exec_done {i : Instr} {s t : State} (h : exec i s = .next t) (hi : i ≠ .combine) :
    t.done = s.done := by
  cases i with
  | combine => exact absurd rfl hi
  | _ =>
    cases h
    simp

/-- The instructions that write a row: MINIT, MSQUARE of its bank, WRROW of the row itself (R31). -/
theorem exec_readRow {i : Instr} {s t : State} (h : exec i s = .next t) (b : Bank) (k : Fin 32) :
    t.readRow b k = s.readRow b k ∨ (i = .minit ∧ b = .odd) ∨ i = .msquare b ∨
      i = .wrrow b k (t.readRow b k) := by
  cases i with
  | combine => obtain ⟨-, rfl⟩ | ⟨-, rfl⟩ := exec_combine_cases h <;> simp
  | minit =>
    cases h
    cases b <;> simp
  | msquare d =>
    cases h
    by_cases hd : b = d <;> simp [hd]
  | wrrow d j v =>
    cases h
    by_cases hd : b = d ∧ k = j
    · obtain ⟨rfl, rfl⟩ := hd
      simp [State.readRow_setRow]
    · simp [State.readRow_setRow, hd]
  | _ =>
    cases h
    simp

/-- STATUS shows DONE in bit 0 (R29). -/
theorem State.status_getLsbD_zero (s : State) : s.status.getLsbD 0 = s.done := by
  simp [State.status]

end Sys2Proof.Machine

/-! ## Agreement on what is written, through every operation (R38), and the statements on the state -/

namespace Sys2Proof

open Machine

section Agreement

variable {s s' : State}

/-! ### Agreement is kept by writing the same value, and by what the host sees -/

theorem AgreeOnWritten.rowDefined_eq (h : AgreeOnWritten s s') (b : Bank) (k : Fin 32) :
    s.rowDefined b k = s'.rowDefined b k := by
  cases b <;> simp [State.rowDefined, h.written]

theorem AgreeOnWritten.setDone (h : AgreeOnWritten s s') : AgreeOnWritten s.setDone s'.setDone :=
  { h with done := rfl, row := fun b k => by simpa using h.row b k }

theorem AgreeOnWritten.clearDone (h : AgreeOnWritten s s') : AgreeOnWritten s.clearDone s'.clearDone :=
  { h with done := rfl, row := fun b k => by simpa using h.row b k }

theorem AgreeOnWritten.setPhase (h : AgreeOnWritten s s') (p : Phase) :
    AgreeOnWritten (s.setPhase p) (s'.setPhase p) :=
  { h with ph := rfl, row := fun b k => by simpa using h.row b k }

theorem AgreeOnWritten.respond (h : AgreeOnWritten s s') (e : ErrCode) (v : Word) :
    AgreeOnWritten (s.respond e v) (s'.respond e v) :=
  { h with rsp := rfl, row := fun b k => by simpa using h.row b k }

theorem AgreeOnWritten.dependsOn (h : AgreeOnWritten s s') (d : Bool) :
    AgreeOnWritten (s.dependsOn d) (s'.dependsOn d) :=
  { h with recorded := by simp [h.recorded], row := fun b k => by simpa using h.row b k }

theorem AgreeOnWritten.setCrc1 (h : AgreeOnWritten s s') (v : Word) :
    AgreeOnWritten (s.setCrc1 v) (s'.setCrc1 v) :=
  { h with
    written := by simp [h.written]
    crc1 := fun _ => rfl
    row := fun b k => by simpa using h.row b k }

theorem AgreeOnWritten.setCrc2 (h : AgreeOnWritten s s') (v : Word) :
    AgreeOnWritten (s.setCrc2 v) (s'.setCrc2 v) :=
  { h with
    written := by simp [h.written]
    crc2 := fun _ => rfl
    row := fun b k => by simpa using h.row b k }

theorem AgreeOnWritten.setLen (h : AgreeOnWritten s s') (v : Word) :
    AgreeOnWritten (s.setLen v) (s'.setLen v) :=
  { h with
    written := by simp [h.written]
    len := fun _ => rfl
    row := fun b k => by simpa using h.row b k }

theorem AgreeOnWritten.setBank (h : AgreeOnWritten s s') (b : Bank) (M : Matrix) :
    AgreeOnWritten (s.setBank b M) (s'.setBank b M) := by
  have row : ∀ c k, (s.setBank b M).rowDefined c k = true →
      (s.setBank b M).readRow c k = (s'.setBank b M).readRow c k := by
    intro c k hk
    rw [State.readRow_setBank, State.readRow_setBank]
    split
    · rfl
    · next hc => exact h.row c k (by simpa [State.rowDefined_setBank, hc] using hk)
  cases b <;> exact { h with written := by simp [h.written], row }

theorem AgreeOnWritten.setRow (h : AgreeOnWritten s s') (b : Bank) (k : Fin 32) (v : Word) :
    AgreeOnWritten (s.setRow b k v) (s'.setRow b k v) := by
  have row : ∀ c j, (s.setRow b k v).rowDefined c j = true →
      (s.setRow b k v).readRow c j = (s'.setRow b k v).readRow c j := by
    intro c j hj
    rw [State.readRow_setRow, State.readRow_setRow]
    split
    · rfl
    · next hc => exact h.row c j (by simpa [State.rowDefined_setRow, hc] using hj)
  cases b <;> exact { h with written := by simp [h.written], row }

theorem AgreeOnWritten.writeScalar (h : AgreeOnWritten s s') (r : Scalar) (v : Word) :
    AgreeOnWritten (s.writeScalar r v) (s'.writeScalar r v) := by
  cases r with
  | crc1 => exact (h.setCrc1 v).respond _ _
  | crc2 => exact (h.setCrc2 v).respond _ _
  | len => exact (h.setLen v).respond _ _
  | status => exact h.respond _ _

/-! ### The passing of a step on the pins, and reset -/

theorem AgreeOnWritten.tick (h : AgreeOnWritten s s') : AgreeOnWritten s.tick s'.tick :=
  { h with
    rstIn := by simp [h.rstIn]
    cmdIn := by simp [h.cmdIn]
    rsp := rfl
    row := fun b k => by simpa using h.row b k }

theorem AgreeOnWritten.accept (h : AgreeOnWritten s s') : AgreeOnWritten s.accept s'.accept :=
  { h.tick with
    cmdIn := by simp [h.cmdIn]
    row := fun b k => by simpa using h.row b k }

/-- A reset marks every element unwritten, so its new free values do not matter (R37, R240). -/
theorem AgreeOnWritten.takeReset (h : AgreeOnWritten s s') : AgreeOnWritten s.takeReset s'.takeReset where
  ph := rfl
  done := rfl
  written := rfl
  recorded := rfl
  rstIn := h.rstIn
  cmdIn := h.cmdIn
  rsp := rfl
  crc1 hw := by cases hw
  crc2 hw := by cases hw
  len hw := by cases hw
  row b k hw := by simp [State.rowDefined_takeReset] at hw

/-! ### The values that an operation reads, where they are written -/

theorem AgreeOnWritten.status_eq (h : AgreeOnWritten s s') : s.status = s'.status := by
  simp [State.status, h.done]

theorem AgreeOnWritten.readScalar_eq (h : AgreeOnWritten s s') {r : Scalar} (hr : s.scalarDefined r = true) :
    s.readScalar r = s'.readScalar r := by
  cases r with
  | crc1 => exact h.crc1 hr
  | crc2 => exact h.crc2 hr
  | len => exact h.len hr
  | status => exact h.status_eq

theorem AgreeOnWritten.scalarDefined_eq (h : AgreeOnWritten s s') (r : Scalar) :
    s.scalarDefined r = s'.scalarDefined r := by
  cases r <;> simp [State.scalarDefined, h.written]

theorem AgreeOnWritten.bankDefined_eq (h : AgreeOnWritten s s') (b : Bank) :
    s.bankDefined b = s'.bankDefined b := by
  simp only [State.bankDefined, h.rowDefined_eq]

theorem AgreeOnWritten.bank_eq (h : AgreeOnWritten s s') {b : Bank} (hb : ∀ k, s.rowDefined b k = true) :
    s.bank b = s'.bank b :=
  Vector.ext fun i hi => h.row b ⟨i, hi⟩ (hb _)

/-- CRC1 chooses the rows, so its value matters to what the product depends on only where it is written. -/
theorem AgreeOnWritten.productDefined_eq (h : AgreeOnWritten s s') (b : Bank) :
    s.productDefined b = s'.productDefined b := by
  cases hw : s.written.crc1 with
  | false => simp [State.productDefined, ← h.written, hw]
  | true => simp only [State.productDefined, h.rowDefined_eq, h.crc1 hw, h.written]

theorem AgreeOnWritten.product_eq (h : AgreeOnWritten s s') {b : Bank} (hd : s.productDefined b = true) :
    s.product b = s'.product b := by
  obtain ⟨hcrc1, hrows⟩ := (s.productDefined_iff b).mp hd
  rw [State.product, State.product, ← h.crc1 hcrc1]
  exact mvm_congr fun k hk => h.row b k (hrows k hk)

theorem AgreeOnWritten.acceptanceDefined_eq (h : AgreeOnWritten s s') :
    s.acceptanceDefined = s'.acceptanceDefined := by
  cases hw : s.written.len with
  | false => simp [State.acceptanceDefined, ← h.written, hw]
  | true => simp only [State.acceptanceDefined, h.len hw, h.written]

/-! ### Agreement through every operation that reads elements, as long as it records nothing -/

theorem AgreeOnWritten.squareInto (h : AgreeOnWritten s s') {d : Bank} (hs : Safe (s.squareInto d)) :
    AgreeOnWritten (s.squareInto d) (s'.squareInto d) := by
  obtain ⟨-, hrows⟩ := (s.safe_squareInto_iff d).mp hs
  rw [State.squareInto, State.squareInto, ← h.bankDefined_eq, ← h.bank_eq hrows]
  exact (h.dependsOn _).setBank _ _

theorem AgreeOnWritten.applyShift (h : AgreeOnWritten s s') {b : Bank} {again : Phase}
    (hs : Safe (s.applyShift b again)) : AgreeOnWritten (s.applyShift b again) (s'.applyShift b again) := by
  obtain ⟨-, hlen, hprod⟩ := (s.safe_applyShift_iff b again).mp hs
  cases hbit : s.len.getLsbD 0 with
  | false =>
    rw [State.applyShift_of_no_bit hbit, State.applyShift_of_no_bit (h.len hlen ▸ hbit), ← h.len hlen, ← h.written]
    exact ((h.dependsOn _).setLen _).setPhase _
  | true =>
    rw [State.applyShift_of_bit hbit, State.applyShift_of_bit (h.len hlen ▸ hbit), ← h.len hlen, ← h.written,
      ← h.productDefined_eq, ← h.product_eq (hprod hbit)]
    exact (((h.dependsOn _).setCrc1 _).setLen _).setPhase _

theorem AgreeOnWritten.phaseFin (h : AgreeOnWritten s s') (hs : Safe s.phaseFin) :
    AgreeOnWritten s.phaseFin s'.phaseFin := by
  obtain ⟨-, hcrc1, hcrc2⟩ := s.safe_phaseFin_iff.mp hs
  rw [State.phaseFin, State.phaseFin, ← h.crc1 hcrc1, ← h.crc2 hcrc2, ← h.written]
  exact ((((h.dependsOn _).setCrc1 _).setDone).setPhase _).respond _ _

theorem AgreeOnWritten.phaseStep (h : AgreeOnWritten s s') (hs : Safe s.phaseStep) :
    AgreeOnWritten s.phaseStep s'.phaseStep := by
  unfold State.phaseStep at hs ⊢
  rw [← h.ph]
  revert hs
  cases s.ph with
  | idle => exact fun _ => h
  | cInit => exact fun _ => (h.setBank .odd base).setPhase _
  | cSq0 => exact fun hs => (h.squareInto hs).setPhase _
  | cSq1 => exact fun hs => (h.squareInto hs).setPhase _
  | cSqe => exact fun hs => (h.squareInto hs).setPhase _
  | cApe => exact fun hs => h.applyShift hs
  | cSqo => exact fun hs => (h.squareInto hs).setPhase _
  | cApo => exact fun hs => h.applyShift hs
  | cFin => exact fun hs => h.phaseFin hs

/-! ### Agreement through an instruction and through a step -/

theorem AgreeOnWritten.raise (h : AgreeOnWritten s s') (e : Reject) : AgreeOnWritten (s.raise e) (s'.raise e) :=
  h.respond _ _

theorem AgreeOnWritten.execCombine (h : AgreeOnWritten s s') {t : State} (ht : exec .combine s = .next t)
    (hs : Safe t) : ∃ t', exec .combine s' = .next t' ∧ AgreeOnWritten t t' := by
  obtain ⟨hz, rfl⟩ | ⟨hz, rfl⟩ := exec_combine_cases ht
  · obtain ⟨-, hd⟩ := (s.dependsOn_recorded_none _).mp hs
    obtain ⟨hlen, hcrc1⟩ := s.acceptanceDefined_iff.mp hd
    refine ⟨_, exec_combine_zero (h.len hlen ▸ hz), ?_⟩
    rw [← h.acceptanceDefined_eq, ← h.crc1 (hcrc1 hz)]
    exact ((h.dependsOn _).setDone).respond _ _
  · obtain ⟨-, hd⟩ := (s.dependsOn_recorded_none _).mp hs
    obtain ⟨hlen, -⟩ := s.acceptanceDefined_iff.mp hd
    refine ⟨_, exec_combine_ne_zero (h.len hlen ▸ hz), ?_⟩
    rw [← h.acceptanceDefined_eq]
    exact ((h.dependsOn _).clearDone).setPhase _

theorem AgreeOnWritten.exec (h : AgreeOnWritten s s') {i : Instr} {t : State} (ht : exec i s = .next t)
    (hs : Safe t) : ∃ t', exec i s' = .next t' ∧ AgreeOnWritten t t' := by
  cases i with
  | combine => exact h.execCombine ht hs
  | nop =>
    cases ht
    exact ⟨_, rfl, h.respond _ _⟩
  | wrs r v =>
    cases ht
    exact ⟨_, rfl, h.writeScalar r v⟩
  | wrrow b k v =>
    cases ht
    exact ⟨_, rfl, (h.setRow b k v).respond _ _⟩
  | minit =>
    cases ht
    exact ⟨_, rfl, (h.setBank .odd base).respond _ _⟩
  | msquare d =>
    cases ht
    exact ⟨_, rfl, (h.squareInto hs).respond _ _⟩
  | rds r =>
    cases ht
    obtain ⟨-, hd⟩ := (s.dependsOn_recorded_none _).mp hs
    refine ⟨_, exec_rds r s', ?_⟩
    rw [← h.scalarDefined_eq, ← h.readScalar_eq hd]
    exact (h.dependsOn _).respond _ _
  | rdrow b k =>
    cases ht
    obtain ⟨-, hd⟩ := (s.dependsOn_recorded_none _).mp hs
    refine ⟨_, exec_rdrow b k s', ?_⟩
    rw [← h.rowDefined_eq, ← h.row b k hd]
    exact (h.dependsOn _).respond _ _
  | mvmul b =>
    cases ht
    obtain ⟨-, hd⟩ := (s.dependsOn_recorded_none _).mp hs
    refine ⟨_, exec_mvmul b s', ?_⟩
    rw [← h.productDefined_eq, ← h.product_eq hd]
    exact ((h.dependsOn _).setCrc1 _).respond _ _

/-! ### What the step looks at first is the same in agreeing states (R217) -/

theorem AgreeOnWritten.rstNow_eq (h : AgreeOnWritten s s') : s.rstNow = s'.rstNow := by
  simp [State.rstNow, h.rstIn]

theorem AgreeOnWritten.busy_eq (h : AgreeOnWritten s s') : s.busy = s'.busy := by
  simp [State.busy, h.ph]

theorem AgreeOnWritten.presented_eq (h : AgreeOnWritten s s') : s.presented = s'.presented := by
  simp [State.presented, h.cmdIn]

end Agreement

/-- Settles O46: both states take the same case of the step, and each case keeps the agreement. -/
theorem unwrittenValuesNeverShow : Obligations.UnwrittenValuesNeverShow := by
  intro s s' t h ht hs
  obtain ⟨hr, rfl⟩ | ⟨hr, hb, rfl⟩ | ⟨hr, hb, hc, rfl⟩ | ⟨c, e, hr, hb, hc, hd, rfl⟩ |
    ⟨c, i, hr, hb, hc, hd, he⟩ := step_cases ht
  · exact ⟨_, step_of_rst (h.rstNow_eq ▸ hr), h.tick.takeReset⟩
  · exact ⟨_, step_of_busy (h.rstNow_eq ▸ hr) (h.busy_eq ▸ hb), h.tick.phaseStep hs⟩
  · exact ⟨_, step_of_silent (h.rstNow_eq ▸ hr) (h.busy_eq ▸ hb) (h.presented_eq ▸ hc), h.tick⟩
  · rw [step_of_presented (h.rstNow_eq ▸ hr) (h.busy_eq ▸ hb) (h.presented_eq ▸ hc)]
    exact ⟨_, runCommand_error hd _, h.accept.raise e⟩
  · rw [step_of_presented (h.rstNow_eq ▸ hr) (h.busy_eq ▸ hb) (h.presented_eq ▸ hc), runCommand_ok hd]
    exact h.accept.exec he hs

/-- Settles O23: each read of elements is one `dependsOn`, whose condition is that these are written. -/
theorem unwrittenUseIsRecorded : Obligations.UnwrittenUseIsRecorded := by
  refine ⟨fun i s t ht => ?_, fun s hr => ⟨fun hp => ?_, fun hp => ?_, fun hp => ?_⟩⟩
  · cases i with
    | combine =>
      have hrec : t.recorded = (s.dependsOn s.acceptanceDefined).recorded := by
        obtain ⟨-, rfl⟩ | ⟨-, rfl⟩ := exec_combine_cases ht <;> rfl
      rw [Safe, hrec, State.dependsOn_recorded_none, State.acceptanceDefined_iff]
    | rds r =>
      cases ht
      cases r with
      | status => exact (and_iff_left trivial).symm
      | _ => exact s.dependsOn_recorded_none _
    | rdrow b k =>
      cases ht
      exact s.dependsOn_recorded_none _
    | mvmul b =>
      cases ht
      exact (s.dependsOn_recorded_none _).trans (and_congr_right' (s.productDefined_iff b))
    | msquare d =>
      cases ht
      cases d <;> exact s.safe_squareInto_iff _
    | _ =>
      cases ht
      simp [Safe, State.loadBase]
  · refine ⟨_, step_of_phase hr (by simp [hp]), ?_⟩
    rw [State.phaseStep_of_cApe (s := s.tick) hp, State.safe_applyShift_iff, State.productDefined_iff]
    exact Iff.rfl
  · refine ⟨_, step_of_phase hr (by simp [hp]), ?_⟩
    rw [State.phaseStep_of_cApo (s := s.tick) hp, State.safe_applyShift_iff, State.productDefined_iff]
    exact Iff.rfl
  · refine ⟨_, step_of_phase hr (by simp [hp]), ?_⟩
    rw [State.phaseStep_of_cFin (s := s.tick) hp, State.safe_phaseFin_iff]
    exact Iff.rfl

/-- Settles O26: WRS by the scalar it names, WRROW by the rule of a row write. -/
theorem accessWritersFrame : Obligations.AccessWritersFrame := by
  refine ⟨fun r v s t ht => ?_, fun b k v s t ht => ?_⟩
  · cases ht
    cases r <;> simp [State.writeScalar]
  · cases ht
    refine ⟨fun c j hcj => ?_, ?_⟩
    · simp [State.readRow_setRow, State.rowDefined_setRow, hcj]
    · cases b <;> simp

/-- Settles O27, from the frames of the two shared operations, BASE loaded and a bank squared. -/
theorem bankWritersFrame : Obligations.BankWritersFrame := by
  rintro i d s t (⟨rfl, rfl⟩ | rfl) ht
  · cases ht
    exact ⟨fun c k hc => by simp [hc], by simp [s.loadBase_frame]⟩
  · cases ht
    exact ⟨fun c k hc => by simp [hc], by simp [s.squareInto_frame]⟩

/-- Settles O30: the engine leaves CRC2, and of the instructions only WRS of CRC2 writes it. -/
theorem crc2OnlyByWrs : Obligations.Crc2OnlyByWrs := by
  intro s t ht hr hne
  obtain ⟨hrst, -⟩ | ⟨-, -, rfl⟩ | ⟨-, -, -, rfl⟩ | ⟨c, e, -, -, -, -, rfl⟩ | ⟨c, i, -, hb, hc, hd, he⟩ :=
    step_cases ht
  · simp [hr] at hrst
  · simp at hne
  · simp at hne
  · simp at hne
  · obtain hsame | rfl := exec_crc2 he
    · exact absurd hsame hne
    · exact ⟨s.not_busy_iff.mp hb, c, hc, hd⟩

/-- Settles O31, clause by clause: reset, C_FIN, an accepted COMBINE, every other step. -/
theorem doneFlagRule : Obligations.DoneFlagRule := by
  refine fun s t ht => ⟨fun hr => ?_, fun hr hp => ?_, ?_, fun hr hp hn => ?_, rfl, t.status_getLsbD_zero⟩
  · rw [step_of_rst hr] at ht
    cases ht
    rfl
  · rw [step_of_phase hr (by simp [hp]), State.phaseStep_of_cFin (s := s.tick) hp] at ht
    cases ht
    rfl
  · rintro hr hp ⟨c, hc, hd⟩
    rw [step_of_legal hr hp hc hd] at ht
    exact exec_combine_done (s := s.accept) ht
  · obtain ⟨hrst, -⟩ | ⟨-, -, rfl⟩ | ⟨-, -, -, rfl⟩ | ⟨c, e, -, -, -, -, rfl⟩ | ⟨c, i, -, hb, hc, hd, he⟩ :=
      step_cases ht
    · simp [hr] at hrst
    · exact State.phaseStep_done (s := s.tick) hp
    · rfl
    · rfl
    · refine exec_done (s := s.accept) he ?_
      rintro rfl
      exact hn ⟨s.not_busy_iff.mp hb, c, hc, hd⟩

/-- Settles O32: the phases that write a bank, and the instructions that write a row. -/
theorem rowsOnlyByTheirWriters : Obligations.RowsOnlyByTheirWriters := by
  intro s t b k ht hr hne
  obtain ⟨hrst, -⟩ | ⟨-, -, rfl⟩ | ⟨-, -, -, rfl⟩ | ⟨c, e, -, -, -, -, rfl⟩ | ⟨c, i, -, hb, hc, hd, he⟩ :=
    step_cases ht
  · simp [hr] at hrst
  · obtain hsame | hodd | heven := s.tick.phaseStep_readRow b k
    · simp [hsame] at hne
    · exact .inl hodd
    · exact .inr (.inl heven)
  · simp at hne
  · simp at hne
  · refine .inr (.inr ⟨s.not_busy_iff.mp hb, c, hc, ?_⟩)
    rw [hd]
    obtain hsame | ⟨rfl, hb'⟩ | rfl | hi := exec_readRow he b k
    · simp [hsame] at hne
    · exact .inl ⟨rfl, hb'⟩
    · exact .inr (.inl rfl)
    · exact .inr (.inr (by rw [← hi]))

/-- Settles O13; the marks are those that every reset step leaves. -/
theorem stateAfterReset : Obligations.StateAfterReset :=
  ⟨rfl, rfl, rfl, rfl, rfl, rfl, rfl, rfl, rfl, rfl, rfl, State.reset.rowDefined_takeReset⟩

/-- Settles O25: a reader only records what it depends on and responds. -/
theorem readersFrame : Obligations.ReadersFrame := by
  rintro i s t (rfl | ⟨r, rfl⟩ | ⟨b, k, rfl⟩) ht
  · cases ht
    simp
  · cases ht
    simp
  · cases ht
    simp

/-- Settles O28: a product goes to CRC1 alone. -/
theorem mvmulFrame : Obligations.MvmulFrame := by
  intro b s t ht
  cases ht
  simp

/-- Settles O29, in both ways a COMBINE is accepted. -/
theorem combineAcceptanceFrame : Obligations.CombineAcceptanceFrame := by
  intro s t ht
  obtain ⟨hz, rfl⟩ | ⟨hz, rfl⟩ := exec_combine_cases ht
  · simp [hz]
  · simp [hz]

/-- Settles O45: the block is idle and its DONE is 0, where the invariants ask for nothing. -/
theorem invariantsHoldAtReset : Obligations.InvariantsHoldAtReset :=
  ⟨trivial, fun _ => rfl, trivial, trivial⟩

end Sys2Proof

/-! ## The encoding: the command word by its five fields, the decoder by its cases, and the statements on both -/

namespace Sys2Proof

/-! ### The command word as the concatenation of its fields (R73) -/

theorem bitVec_append_inj {m n : Nat} {x x' : BitVec m} {u u' : BitVec n} :
    x ++ u = x' ++ u' ↔ x = x' ∧ u = u' := by
  refine ⟨fun h => ⟨?_, ?_⟩, fun ⟨hx, hu⟩ => by rw [hx, hu]⟩
  · simpa [BitVec.extractLsb'_append_eq_left] using congrArg (BitVec.extractLsb' n m) h
  · simpa [BitVec.extractLsb'_append_eq_right] using congrArg (BitVec.extractLsb' 0 n) h

theorem exists_bitVec_append {m n : Nat} (w : BitVec (m + n)) : ∃ (x : BitVec m) (u : BitVec n), w = x ++ u :=
  ⟨_, _, BitVec.extractLsb'_append_extractLsb'.symm⟩

/-- The 16-bit word with the five fields of R73: opcode, zero, bank, zero, index. -/
def fieldsWord (o : BitVec 4) (z : BitVec 3) (b : BitVec 1) (z' : BitVec 3) (k : BitVec 5) : BitVec 16 :=
  o ++ z ++ b ++ z' ++ k

theorem commandWord_eq_fieldsWord (op : Opcode) (b : BitVec 1) (k : BitVec 5) :
    commandWord op b k = fieldsWord op.code 0#3 b 0#3 k := rfl

theorem exists_eq_fieldsWord (w : BitVec 16) : ∃ o z b z' k, w = fieldsWord o z b z' k := by
  obtain ⟨x, k, rfl⟩ := exists_bitVec_append (m := 11) (n := 5) w
  obtain ⟨x, z', rfl⟩ := exists_bitVec_append (m := 8) (n := 3) x
  obtain ⟨x, b, rfl⟩ := exists_bitVec_append (m := 7) (n := 1) x
  obtain ⟨o, z, rfl⟩ := exists_bitVec_append (m := 4) (n := 3) x
  exact ⟨o, z, b, z', k, rfl⟩

section Fields

variable (o o' : BitVec 4) (z y z' y' : BitVec 3) (b b' : BitVec 1) (k k' : BitVec 5)

theorem fieldsWord_and :
    fieldsWord o z b z' k &&& fieldsWord o' y b' y' k' =
      fieldsWord (o &&& o') (z &&& y) (b &&& b') (z' &&& y') (k &&& k') := by
  change (o ++ z ++ b ++ z' ++ k) &&& (o' ++ y ++ b' ++ y' ++ k') = _
  simp only [BitVec.and_append]
  rfl

theorem fieldsWord_or :
    fieldsWord o z b z' k ||| fieldsWord o' y b' y' k' =
      fieldsWord (o ||| o') (z ||| y) (b ||| b') (z' ||| y') (k ||| k') := by
  change (o ++ z ++ b ++ z' ++ k) ||| (o' ++ y ++ b' ++ y' ++ k') = _
  simp only [BitVec.or_append]
  rfl

theorem fieldsWord_inj :
    fieldsWord o z b z' k = fieldsWord o' y b' y' k' ↔ o = o' ∧ z = y ∧ b = b' ∧ z' = y' ∧ k = k' := by
  change (o ++ z ++ b ++ z' ++ k) = (o' ++ y ++ b' ++ y' ++ k') ↔ _
  simp only [bitVec_append_inj, and_assoc]

@[simp] theorem opcodeField_fieldsWord : opcodeField (fieldsWord o z b z' k) = o := by
  change (o ++ z ++ b ++ z' ++ k).extractLsb' 12 4 = o
  iterate 3 rw [BitVec.extractLsb'_append_eq_of_le (by decide)]
  exact BitVec.extractLsb'_append_eq_left

theorem getLsbD_fieldsWord : (fieldsWord o z b z' k).getLsbD 8 = b.getLsbD 0 := by
  change (o ++ z ++ b ++ z' ++ k).getLsbD 8 = b.getLsbD 0
  simp only [BitVec.getLsbD_append, Nat.reduceLT, Nat.reduceSub, if_false, if_true]

theorem extractLsb'_fieldsWord {n : Nat} (hn : n ≤ 5) :
    (fieldsWord o z b z' k).extractLsb' 0 n = k.extractLsb' 0 n := by
  change (o ++ z ++ b ++ z' ++ k).extractLsb' 0 n = _
  rw [BitVec.extractLsb'_append_eq_of_add_le (by omega)]

theorem bankField_fieldsWord (a : Bank) : bankField (fieldsWord o z a.bit z' k) = a := by
  rw [bankField, getLsbD_fieldsWord]
  cases a <;> rfl

@[simp] theorem bit_bankField_fieldsWord : (bankField (fieldsWord o z b z' k)).bit = b := by
  rw [bankField, getLsbD_fieldsWord]
  revert b
  decide

@[simp] theorem rowField_fieldsWord : rowField (fieldsWord o z b z' k) = k.toFin := by
  rw [rowField, extractLsb'_fieldsWord _ _ _ _ _ le_rfl, BitVec.extractLsb'_eq_self]

@[simp] theorem scalarField_fieldsWord :
    scalarField (fieldsWord o z b z' k) = scalarOfSelector (k.extractLsb' 0 2) := by
  rw [scalarField, extractLsb'_fieldsWord _ _ _ _ _ (by decide)]

end Fields

/-! ### Selectors, opcodes and must-be-zero bits -/

@[simp] theorem selector_scalarOfSelector (r : BitVec 2) : (scalarOfSelector r).selector = r := by
  revert r
  decide

/-- The index of format S carries the selector (R73, R74). -/
@[simp] theorem scalarOfSelector_extractLsb'_setWidth (r : Scalar) :
    scalarOfSelector ((r.selector.setWidth 5).extractLsb' 0 2) = r := by
  cases r <;> rfl

theorem opcodeOf_eq_none_iff (o : BitVec 4) : opcodeOf o = none ↔ 9 ≤ o.toNat := by
  revert o
  decide

/-- The decoder's opcode map is the inverse of the codes (R76). -/
theorem opcodeOf_eq_some_iff {o : BitVec 4} {op : Opcode} : opcodeOf o = some op ↔ o = op.code := by
  revert o
  cases op <;> decide

/-- What a format asks of the bank and the index field; in format S the index is a selector and zeros (R74). -/
def Format.FieldsFit (f : Format) (b : BitVec 1) (k : BitVec 5) : Prop :=
  match f with
  | .n => b = 0#1 ∧ k = 0#5
  | .s => b = 0#1 ∧ k = (k.extractLsb' 0 2).setWidth 5
  | .b => k = 0#5
  | .r => True

/-- The must-be-zero bits by field: both zero fields whole, and those whose absence makes the others fit. -/
theorem mustBeZero_eq_fieldsWord (f : Format) :
    ∃ mb mk, f.mustBeZero = fieldsWord 0#4 7#3 mb 7#3 mk ∧
      ∀ b k, (b &&& mb = 0#1 ∧ k &&& mk = 0#5) ↔ f.FieldsFit b k := by
  cases f with
  | n => exact ⟨1#1, 31#5, rfl, by simp only [Format.FieldsFit]; decide⟩
  | s => exact ⟨1#1, 28#5, rfl, by simp only [Format.FieldsFit]; decide⟩
  | b => exact ⟨0#1, 31#5, rfl, by simp only [Format.FieldsFit]; decide⟩
  | r => exact ⟨0#1, 0#5, rfl, by simp [Format.FieldsFit]⟩

/-- The must-be-zero check, field by field (R74). -/
theorem fieldsWord_and_mustBeZero_iff (o : BitVec 4) (z : BitVec 3) (b : BitVec 1) (z' : BitVec 3) (k : BitVec 5)
    (f : Format) :
    fieldsWord o z b z' k &&& f.mustBeZero = 0#16 ↔ z = 0#3 ∧ z' = 0#3 ∧ f.FieldsFit b k := by
  obtain ⟨mb, mk, hm, hfit⟩ := mustBeZero_eq_fieldsWord f
  have hzero : 0#16 = fieldsWord 0#4 0#3 0#1 0#3 0#5 := rfl
  have hones (x : BitVec 3) : x &&& 7#3 = x := BitVec.and_allOnes
  rw [hm, fieldsWord_and, hzero, fieldsWord_inj, hones, hones, ← hfit]
  simp [and_left_comm]

/-! ### Instructions and the words of their opcodes -/

@[simp] theorem opcode_instrOf (op : Opcode) (c : Command) : (instrOf op c).opcode = op := by
  cases op <;> rfl

@[simp] theorem wf_withData (i : Instr) (v : Word) : (i.withData v).wf = i.wf := by
  cases i <;> rfl

@[simp] theorem withData_wdata_instrOf (op : Opcode) (c : Command) :
    (instrOf op c).withData c.wdata = instrOf op c := by
  cases op <;> rfl

@[simp] theorem withData_wdata_encode (i : Instr) : i.withData (encode i).wdata = i := by
  cases i <;> rfl

theorem Scalar.writable_eq (r : Scalar) : r.writable = !(r == .status) := by
  cases r <;> rfl

/-- The decoder's last check is the one well-formedness makes (R76, R77). -/
theorem wf_instrOf (op : Opcode) (c : Command) : (instrOf op c).wf = !writesStatus op c.cmd := by
  cases op with
  | wrs => exact Scalar.writable_eq _
  | _ => rfl

/-- An encoding has its opcode's code, and fields that fit the format (R73, R74). -/
theorem encode_cmd_eq (i : Instr) :
    ∃ b k, (encode i).cmd = fieldsWord i.opcode.code 0#3 b 0#3 k ∧ i.opcode.format.FieldsFit b k := by
  cases i with
  | nop | minit | combine => exact ⟨_, _, rfl, rfl, rfl⟩
  | wrs r | rds r => exact ⟨_, _, rfl, rfl, by cases r <;> rfl⟩
  | msquare d | mvmul d => exact ⟨_, _, rfl, rfl⟩
  | wrrow b k | rdrow b k => exact ⟨_, _, rfl, trivial⟩

theorem opcodeField_encode (i : Instr) : opcodeField (encode i).cmd = i.opcode.code := by
  obtain ⟨b, k, hw, -⟩ := encode_cmd_eq i
  rw [hw, opcodeField_fieldsWord]

/-- An encoding passes the must-be-zero check of its format. -/
theorem encode_and_mustBeZero (i : Instr) : (encode i).cmd &&& i.opcode.format.mustBeZero = 0#16 := by
  obtain ⟨b, k, hw, hfit⟩ := encode_cmd_eq i
  rw [hw, fieldsWord_and_mustBeZero_iff]
  exact ⟨rfl, rfl, hfit⟩

/-- Reading the operands of an encoding gives them back, with the write data beside it (R73, R75). -/
theorem instrOf_encode (i : Instr) (v : Word) : instrOf i.opcode ⟨(encode i).cmd, v⟩ = i.withData v := by
  cases i <;> simp [instrOf, encode, Instr.opcode, Instr.withData, commandWord_eq_fieldsWord, bankField_fieldsWord]

/-- A word of `op` with its must-be-zero bits zero is the encoding of the instruction read from it. -/
theorem encode_instrOf {op : Opcode} {c : Command} (ho : opcodeField c.cmd = op.code)
    (hz : c.cmd &&& op.format.mustBeZero = 0#16) : (encode (instrOf op c)).cmd = c.cmd := by
  obtain ⟨w, v⟩ := c
  obtain ⟨o, z, b, z', k, rfl⟩ := exists_eq_fieldsWord w
  obtain rfl := (opcodeField_fieldsWord ..).symm.trans ho
  obtain ⟨rfl, rfl, hfit⟩ := (fieldsWord_and_mustBeZero_iff ..).mp hz
  cases op with
  | nop | minit | combine =>
    obtain ⟨rfl, rfl⟩ := hfit
    rfl
  | wrs | rds =>
    obtain ⟨rfl, hk⟩ := hfit
    simp [instrOf, encode, commandWord_eq_fieldsWord, ← hk]
  | msquare | mvmul =>
    obtain rfl := hfit
    simp [instrOf, encode, commandWord_eq_fieldsWord]
  | wrrow | rdrow =>
    simp [instrOf, encode, commandWord_eq_fieldsWord]

/-! ### The decoder by its cases (R77) -/

section Decode

variable {c : Command} {op : Opcode}

theorem decode_of_reserved (ho : 9 ≤ (opcodeField c.cmd).toNat) : decode c = .error .eOpcode := by
  rw [decode, (opcodeOf_eq_none_iff _).mpr ho]

theorem decode_of_nonzero_field (ho : opcodeField c.cmd = op.code)
    (hz : c.cmd &&& op.format.mustBeZero ≠ 0#16) : decode c = .error .eField := by
  rw [decode, opcodeOf_eq_some_iff.mpr ho]
  exact if_pos hz

theorem decode_of_writesStatus (ho : opcodeField c.cmd = op.code)
    (hz : c.cmd &&& op.format.mustBeZero = 0#16) (hs : writesStatus op c.cmd = true) :
    decode c = .error .eAccess := by
  rw [decode, opcodeOf_eq_some_iff.mpr ho]
  exact (if_neg (not_not.mpr hz)).trans (if_pos hs)

theorem decode_of_legal (ho : opcodeField c.cmd = op.code)
    (hz : c.cmd &&& op.format.mustBeZero = 0#16) (hs : writesStatus op c.cmd = false) :
    decode c = .ok (instrOf op c) := by
  rw [decode, opcodeOf_eq_some_iff.mpr ho]
  exact (if_neg (not_not.mpr hz)).trans (if_neg (ne_true_of_eq_false hs))

/-- Every field is reserved or the code of an opcode (R76, R78). -/
theorem reserved_or_code (o : BitVec 4) : 9 ≤ o.toNat ∨ ∃ op : Opcode, o = op.code := by
  cases h : opcodeOf o with
  | none => exact .inl ((opcodeOf_eq_none_iff o).mp h)
  | some op => exact .inr ⟨op, opcodeOf_eq_some_iff.mp h⟩

/-- Everything the decoder can answer, and when (R77). -/
theorem decode_cases (c : Command) :
    (9 ≤ (opcodeField c.cmd).toNat ∧ decode c = .error .eOpcode) ∨
    ∃ op : Opcode, opcodeField c.cmd = op.code ∧
      ((c.cmd &&& op.format.mustBeZero ≠ 0#16 ∧ decode c = .error .eField) ∨
       (c.cmd &&& op.format.mustBeZero = 0#16 ∧ writesStatus op c.cmd = true ∧ decode c = .error .eAccess) ∨
       (c.cmd &&& op.format.mustBeZero = 0#16 ∧ writesStatus op c.cmd = false ∧
         decode c = .ok (instrOf op c))) := by
  obtain ho | ⟨op, ho⟩ := reserved_or_code (opcodeField c.cmd)
  · exact .inl ⟨ho, decode_of_reserved ho⟩
  · refine .inr ⟨op, ho, ?_⟩
    by_cases hz : c.cmd &&& op.format.mustBeZero = 0#16
    · cases hs : writesStatus op c.cmd with
      | true => exact .inr (.inl ⟨hz, rfl, decode_of_writesStatus ho hz hs⟩)
      | false => exact .inr (.inr ⟨hz, rfl, decode_of_legal ho hz hs⟩)
    · exact .inl ⟨hz, decode_of_nonzero_field ho hz⟩

/-- What a legal word has passed, and the instruction read from it. -/
theorem decode_eq_ok {i : Instr} (h : decode c = .ok i) :
    ∃ op : Opcode, opcodeField c.cmd = op.code ∧ c.cmd &&& op.format.mustBeZero = 0#16 ∧
      writesStatus op c.cmd = false ∧ i = instrOf op c := by
  obtain ⟨-, hd⟩ | ⟨op, ho, ⟨-, hd⟩ | ⟨-, -, hd⟩ | ⟨hz, hs, hd⟩⟩ := decode_cases c
  · simp [hd] at h
  · simp [hd] at h
  · simp [hd] at h
  · exact ⟨op, ho, hz, hs, by simpa [hd] using h.symm⟩

/-- The encoding of a well-formed instruction decodes to it, with whatever write data stands beside it. -/
theorem decode_encode_cmd {i : Instr} (hi : i.WellFormed) (v : Word) :
    decode ⟨(encode i).cmd, v⟩ = .ok (i.withData v) := by
  have hwf : (instrOf i.opcode ⟨(encode i).cmd, v⟩).wf = true := by
    rw [instrOf_encode, wf_withData, hi]
  rw [wf_instrOf, Bool.not_eq_true'] at hwf
  rw [decode_of_legal (c := ⟨_, v⟩) (opcodeField_encode i) (encode_and_mustBeZero i) hwf, instrOf_encode]

end Decode

/-- Settles O1: every field of the encoding is read back as it was written. -/
theorem decodeEncodeRoundTrip : Obligations.DecodeEncodeRoundTrip := by
  intro i hi
  have hdata := decode_encode_cmd hi (encode i).wdata
  rw [withData_wdata_encode] at hdata
  exact ⟨hdata, decode_encode_cmd hi⟩

/-- Settles O2: the checks a legal word has passed leave nothing in it but what its encoding writes. -/
theorem legalWordEncodesBack : Obligations.LegalWordEncodesBack := by
  intro c i h
  obtain ⟨op, ho, hz, hs, rfl⟩ := decode_eq_ok h
  exact ⟨by rw [Instr.WellFormed, wf_instrOf, hs, Bool.not_false], encode_instrOf ho hz, withData_wdata_instrOf op c⟩

/-! ### The decoder's order, with the statement's numbers (R77) -/

theorem opcodeField_toNat (w : BitVec 16) : (opcodeField w).toNat = (w >>> 12).toNat := by
  have hw : w.toNat >>> 12 < 2 ^ 4 := by omega
  simpa [opcodeField, BitVec.extractLsb'_toNat] using Nat.mod_eq_of_lt hw

/-- The list of must-be-zero bits of `Obligations.DecodeOrder` is the formats' (R74). -/
theorem zeros_getD_code (op : Opcode) :
    [0x0FFF#16, 0x0FFC#16, 0x0FFC#16, 0x0EE0#16, 0x0EE0#16, 0x0FFF#16, 0x0EFF#16, 0x0EFF#16, 0x0FFF#16].getD
      op.code.toNat 0 = op.format.mustBeZero := by
  cases op <;> rfl

theorem code_toNat_lt (op : Opcode) : op.code.toNat < 9 := by
  cases op <;> decide

theorem code_toNat_eq_one_iff (op : Opcode) : op.code.toNat = 1 ↔ op = .wrs := by
  cases op <;> decide

theorem scalarField_eq_status_iff (w : BitVec 16) : scalarField w = .status ↔ w &&& 3#16 = 3#16 := by
  obtain ⟨o, z, b, z', k, rfl⟩ := exists_eq_fieldsWord w
  have hthree : 3#16 = fieldsWord 0#4 0#3 0#1 0#3 3#5 := rfl
  have hk : scalarOfSelector (k.extractLsb' 0 2) = .status ↔ k &&& 3#5 = 3#5 := by
    revert k
    decide
  rw [scalarField_fieldsWord, hk, hthree, fieldsWord_and, fieldsWord_inj]
  simp

theorem writesStatus_iff (op : Opcode) (w : BitVec 16) :
    writesStatus op w = true ↔ op.code.toNat = 1 ∧ w &&& 3#16 = 3#16 := by
  rw [code_toNat_eq_one_iff, ← scalarField_eq_status_iff]
  simp [writesStatus]

/-- Settles O3: each clause is one case of the decoder. -/
theorem decodeOrder : Obligations.DecodeOrder := by
  intro c
  simp only [← opcodeField_toNat]
  obtain ⟨ho, hd⟩ | ⟨op, ho, hcases⟩ := decode_cases c
  · refine ⟨fun _ => hd, fun hlt => ?_, fun h1 => ?_, fun hlt => ?_⟩ <;> omega
  · have hlt := code_toNat_lt op
    have hws : writesStatus op c.cmd = true ↔ op.code.toNat = 1 ∧ c.cmd &&& 3 = 3 := writesStatus_iff op c.cmd
    rw [ho, zeros_getD_code, ← hws]
    obtain ⟨hz, hd⟩ | ⟨hz, hs, hd⟩ | ⟨hz, hs, hd⟩ := hcases
    · exact ⟨fun h9 => by omega, fun _ _ => hd, fun _ h0 => absurd h0 hz, fun _ h0 => absurd h0 hz⟩
    · exact ⟨fun h9 => by omega, fun _ hnz => absurd hz hnz, fun _ _ _ => hd, fun _ _ hns => absurd hs hns⟩
    · refine ⟨fun h9 => by omega, fun _ hnz => absurd hz hnz, fun h1 _ h3 => ?_, fun _ _ _ => ⟨_, hd, ?_⟩⟩
      · exact absurd (hws.mpr ⟨h1, h3⟩) (ne_true_of_eq_false hs)
      · rw [opcode_instrOf]

/-! ### The opcode map by match and mask (R76) -/

/-- The opcodes in the order of the map. -/
def mapOpcodes : List Opcode := [.nop, .wrs, .rds, .wrrow, .rdrow, .minit, .msquare, .mvmul, .combine]

/-- The row of an opcode: its code must match, and the must-be-zero bits of its format must be zero. -/
def Opcode.tableRow (op : Opcode) : TableRow :=
  ⟨op, fieldsWord op.code 0#3 0#1 0#3 0#5, fieldsWord 0xF#4 0#3 0#1 0#3 0#5 ||| op.format.mustBeZero⟩

theorem opcodeTable_eq : opcodeTable = mapOpcodes.map Opcode.tableRow := by decide

/-- A row accepts the words of its opcode that pass the must-be-zero check. -/
theorem tableRow_accepts_iff (op : Opcode) (w : BitVec 16) :
    op.tableRow.accepts w = true ↔ opcodeField w = op.code ∧ w &&& op.format.mustBeZero = 0#16 := by
  obtain ⟨o, z, b, z', k, rfl⟩ := exists_eq_fieldsWord w
  obtain ⟨mb, mk, hm, -⟩ := mustBeZero_eq_fieldsWord op.format
  have hzero : 0#16 = fieldsWord 0#4 0#3 0#1 0#3 0#5 := rfl
  have hones : o &&& 0xF#4 = o := BitVec.and_allOnes
  rw [TableRow.accepts, beq_iff_eq, Opcode.tableRow, hm, fieldsWord_or, fieldsWord_and, fieldsWord_and, hzero,
    fieldsWord_inj, fieldsWord_inj]
  simp [hones]

open Laws.RowOfEncoding (rowsOf)

theorem rowsOf_eq_filter (w : BitVec 16) : rowsOf w = mapOpcodes.filter fun op => op.tableRow.accepts w := by
  rw [rowsOf, opcodeTable_eq, List.filter_map, List.map_map]
  exact List.map_id _

theorem rowsOf_eq_nil {w : BitVec 16}
    (h : ∀ op : Opcode, opcodeField w = op.code → w &&& op.format.mustBeZero ≠ 0#16) : rowsOf w = [] := by
  rw [rowsOf_eq_filter, List.filter_eq_nil_iff]
  intro op _ ha
  obtain ⟨ho, hz⟩ := (tableRow_accepts_iff op w).mp ha
  exact h op ho hz

theorem code_inj {op q : Opcode} : op.code = q.code ↔ op = q := by
  rw [← opcodeOf_eq_some_iff, opcodeOf_eq_some_iff.mpr rfl, Option.some_inj]

theorem rowsOf_eq_singleton {w : BitVec 16} {op : Opcode} (ho : opcodeField w = op.code)
    (hz : w &&& op.format.mustBeZero = 0#16) : rowsOf w = [op] := by
  have hsame (q : Opcode) : q.tableRow.accepts w = decide (q = op) := by
    rw [Bool.eq_iff_iff, tableRow_accepts_iff, ho, code_inj, decide_eq_true_iff]
    exact ⟨fun ⟨hq, _⟩ => hq.symm, fun hq => ⟨hq.symm, hq ▸ hz⟩⟩
  have hone : mapOpcodes.filter (fun q => decide (q = op)) = [op] := by
    cases op <;> rfl
  rw [rowsOf_eq_filter, List.filter_congr fun q _ => hsame q, hone]

/-- Settles O4: the rows that match are read off the case of the decoder. -/
theorem tableAgreesWithDecoder : Obligations.TableAgreesWithDecoder := by
  intro c
  change rowsOf c.cmd = _
  obtain ⟨ho, hd⟩ | ⟨op, ho, ⟨hz, hd⟩ | ⟨hz, hs, hd⟩ | ⟨hz, -, hd⟩⟩ := decode_cases c
  · rw [hd]
    refine rowsOf_eq_nil fun q hq => ?_
    have hlt := code_toNat_lt q
    rw [hq] at ho
    omega
  · rw [hd]
    refine rowsOf_eq_nil fun q hq => ?_
    obtain rfl := code_inj.mp (ho.symm.trans hq)
    exact hz
  · obtain ⟨hone, -⟩ := (writesStatus_iff op c.cmd).mp hs
    rw [hd, rowsOf_eq_singleton ho hz, (code_toNat_eq_one_iff op).mp hone]
  · rw [hd, rowsOf_eq_singleton ho hz]
    simp

/-- Settles O6: the words are evaluated, each on its own. -/
theorem specWordsDecode : Obligations.SpecWordsDecode :=
  ⟨rfl, rfl, rfl, rfl, rfl, rfl, rfl, rfl, rfl, rfl, rfl, rfl, rfl⟩

end Sys2Proof

/-! ## The responses of a step, and the command it runs (R71, R72) -/

namespace Sys2Proof.Machine

theorem State.accept_of_cmdIn {s : State} {c : Option Command} {rest : List (Option Command)}
    (h : s.cmdIn = c :: rest) : s.accept = { s with rstIn := s.rstIn.tail, cmdIn := rest, rsp := none } := by
  simp [State.accept, State.tick, h]

theorem State.presented_of_cmdIn {s : State} {c : Command} {rest : List (Option Command)}
    (h : s.cmdIn = some c :: rest) : s.presented = some c := by
  simp [State.presented, h]

@[simp] theorem State.loadBase_rsp (s : State) : s.loadBase.rsp = s.rsp := by
  simp [State.loadBase]

@[simp] theorem State.squareInto_rsp (s : State) (d : Bank) : (s.squareInto d).rsp = s.rsp := by
  simp [State.squareInto]

@[simp] theorem State.applyShift_rsp (s : State) (b : Bank) (again : Phase) :
    (s.applyShift b again).rsp = s.rsp := by
  obtain ⟨-, -, -, -, -, -, -, -, -, -, hrsp⟩ := s.applyShift_fields b again
  exact hrsp

theorem State.phaseFin_rsp (s : State) : s.phaseFin.rsp = some ⟨.ok, s.crc1 ^^^ s.crc2⟩ := rfl

/-- C_FIN alone of the phases responds (R72). -/
theorem State.phaseStep_rsp {s : State} (hp : s.ph ≠ .cFin) : s.phaseStep.rsp = s.rsp := by
  obtain ⟨-, h⟩ | ⟨-, h⟩ | ⟨p, -, h⟩ | ⟨p, -, h⟩ | ⟨b, again, -, h⟩ | ⟨hfin, -⟩ := s.phaseStep_cases
  case inr.inr.inr.inr.inr => exact absurd hfin hp
  all_goals simp [h]

/-- An instruction responds at once, an error with data 0, unless it is a COMBINE that starts the engine (R72). -/
theorem exec_rsp {i : Instr} {s t : State} (h : exec i s = .next t) :
    (i = .combine ∧ s.len ≠ 0#32 ∧ t.rsp = s.rsp) ∨
    (¬ (i = .combine ∧ s.len ≠ 0#32) ∧ ∃ r, t.rsp = some r ∧ (r.err ≠ .ok → r.data = 0#32)) := by
  cases i with
  | combine =>
    obtain ⟨hz, rfl⟩ | ⟨hz, rfl⟩ := exec_combine_cases h
    · exact .inr ⟨fun ⟨_, hne⟩ => hne hz, _, rfl, fun hne => absurd rfl hne⟩
    · exact .inl ⟨rfl, hz, rfl⟩
  | wrs r v =>
    cases h
    exact .inr ⟨by simp, _, State.writeScalar_rsp .., fun _ => rfl⟩
  | nop | wrrow | minit | msquare =>
    cases h
    exact .inr ⟨by simp, _, rfl, fun _ => rfl⟩
  | rds | rdrow | mvmul =>
    cases h
    exact .inr ⟨by simp, _, rfl, fun hne => absurd rfl hne⟩

theorem step_next (s : State) : ∃ t, step s = .next t := by
  cases hr : s.rstNow with
  | true => exact ⟨_, step_of_rst hr⟩
  | false =>
    cases hb : s.busy with
    | true => exact ⟨_, step_of_busy hr hb⟩
    | false =>
      cases hc : s.presented with
      | none => exact ⟨_, step_of_silent hr hb hc⟩
      | some c =>
        rw [step_of_presented hr hb hc]
        cases hd : decode c with
        | error e => exact ⟨_, runCommand_error hd _⟩
        | ok i =>
          rw [runCommand_ok hd]
          exact exec_next i _

end Sys2Proof.Machine

namespace Sys2Proof

open Machine

/-- Settles O7: accepting the command is what the statement writes out. -/
theorem stepRunsDecodedInstruction : Obligations.StepRunsDecodedInstruction := by
  intro s c rest i hr hp hc hd
  rw [step_of_legal hr hp (State.presented_of_cmdIn hc) hd, State.accept_of_cmdIn hc]

/-- Settles O14: each case of a step, by the response of the phase or of the instruction it runs. -/
theorem oneResponsePerCommand : Obligations.OneResponsePerCommand := by
  intro s
  obtain ⟨t, ht⟩ := step_next s
  refine ⟨t, ht, ?_⟩
  obtain ⟨hr, rfl⟩ | ⟨hr, hb, rfl⟩ | ⟨hr, hb, hc, rfl⟩ | ⟨c, e, hr, hb, hc, hd, rfl⟩ |
    ⟨c, i, hr, hb, hc, hd, he⟩ := step_cases ht
  · simp [State.rspValid, hr]
  · have hidle := s.busy_iff.mp hb
    by_cases hfin : s.ph = .cFin
    · rw [State.phaseStep_of_cFin (s := s.tick) hfin]
      simp [State.rspValid, State.phaseFin_rsp, hr, hfin]
    · rw [State.rspValid, State.phaseStep_rsp (s := s.tick) hfin]
      simp [hr, hidle, hfin]
  · have hidle := s.not_busy_iff.mp hb
    simp [State.rspValid, hc, hidle]
  · have hidle := s.not_busy_iff.mp hb
    simp [State.rspValid, hr, hc, hidle, hd]
  · have hidle := s.not_busy_iff.mp hb
    obtain ⟨rfl, hlen, hrsp⟩ | ⟨hn, r, hrsp, hdata⟩ := exec_rsp he
    · have hstarts : s.len ≠ 0#32 := hlen
      simp [State.rspValid, hrsp, hidle, hc, hd, hstarts]
    · simpa [State.rspValid, hrsp, hr, hidle, hc, hd] using And.intro hn hdata

end Sys2Proof

/-! ## The product over GF(2), bit by bit, its laws, its loop and the units that compute it (R100 to R107) -/

namespace Sys2Proof.Machine

/-! ### The XOR of a list of bits -/

section Bits

variable {α : Type} {l : List α}

/-- The XOR of bits is the parity of the set ones. -/
theorem foldr_xor_map_eq_parity (p : α → Bool) :
    (l.map p).foldr xor false = decide ((l.filter p).length % 2 = 1) := by
  induction l with
  | nil => rfl
  | cons a l ih =>
    cases h : p a with
    | false => simp [h, ih]
    | true =>
      have flips (n : Nat) : decide ((n + 1) % 2 = 1) = !decide (n % 2 = 1) := by
        rw [← decide_not, decide_eq_decide]
        omega
      rw [List.map_cons, List.foldr_cons, List.filter_cons_of_pos h, List.length_cons, flips, ih, h, Bool.true_xor]

theorem foldr_xor_map_xor (p q : α → Bool) :
    (l.map fun a => p a ^^ q a).foldr xor false = ((l.map p).foldr xor false ^^ (l.map q).foldr xor false) := by
  induction l with
  | nil => rfl
  | cons a l ih => simp [ih, Bool.xor_left_comm]

theorem foldr_xor_map_eq_false {p : α → Bool} (h : ∀ a ∈ l, p a = false) :
    (l.map p).foldr xor false = false := by
  induction l with
  | nil => rfl
  | cons a l ih =>
    obtain ⟨ha, hl⟩ := List.forall_mem_cons.mp h
    simp [ha, ih hl]

/-- Of bits that are all 0 but for one place, the XOR is the bit at that place. -/
theorem foldr_xor_map_single (hl : l.Nodup) {i : α} (hi : i ∈ l) {p : α → Bool}
    (h : ∀ k ≠ i, p k = false) : (l.map p).foldr xor false = p i := by
  induction l with
  | nil => cases hi
  | cons a l ih =>
    obtain ⟨ha, hl⟩ := List.nodup_cons.mp hl
    by_cases hai : a = i
    · subst hai
      have hzero := foldr_xor_map_eq_false fun k hk => h k (ne_of_mem_of_not_mem hk ha)
      simp [hzero]
    · have hi : i ∈ l := List.mem_of_ne_of_mem (Ne.symm hai) hi
      simp [ih hl hi, h a hai]

end Bits

/-! ### The product bit by bit (R100) -/

theorem mvm_getLsbD (M : Matrix) (v : Word) (j : Nat) :
    (mvm M v).getLsbD j =
      ((List.finRange 32).map fun i : Fin 32 => v.getLsbD i && M[i].getLsbD j).foldr xor false := by
  rw [mvm, xorAll_getLsbD, List.map_map]
  congr 1
  refine List.map_congr_left fun i _ => ?_
  cases h : v.getLsbD i with
  | false => simp only [Function.comp_apply, h, Bool.false_eq_true, if_false, BitVec.getLsbD_zero, Bool.false_and]
  | true => simp only [Function.comp_apply, h, if_true, Bool.true_and]

theorem mvm_getLsbD_eq_parity (M : Matrix) (v : Word) (j : Nat) :
    (mvm M v).getLsbD j = decide (((List.finRange 32).filter fun i : Fin 32 =>
      v.getLsbD i && M[i].getLsbD j).length % 2 = 1) := by
  rw [mvm_getLsbD, foldr_xor_map_eq_parity]

/-- A bit that only one row can contribute to. -/
theorem mvm_getLsbD_of_single {M : Matrix} {v : Word} {j : Nat} (i : Fin 32)
    (h : ∀ k ≠ i, (v.getLsbD k && M[k].getLsbD j) = false) :
    (mvm M v).getLsbD j = (v.getLsbD i && M[i].getLsbD j) := by
  rw [mvm_getLsbD, foldr_xor_map_single (List.nodup_finRange 32) (List.mem_finRange i) h]

/-! ### The laws of the product (R105) -/

@[simp] theorem mvm_zero (M : Matrix) : mvm M 0#32 = 0#32 := by
  apply BitVec.eq_of_getLsbD_eq
  intro j _
  rw [mvm_getLsbD, foldr_xor_map_eq_false fun i _ => by simp, BitVec.getLsbD_zero]

theorem oneShiftLeft_getLsbD (i : Fin 32) (k : Nat) : (1#32 <<< i.val).getLsbD k = decide (i.val = k) := by
  rw [← BitVec.twoPow_eq, BitVec.getLsbD_twoPow]
  simp

@[simp] theorem mvm_oneShiftLeft (M : Matrix) (i : Fin 32) : mvm M (1#32 <<< i.val) = M[i] := by
  apply BitVec.eq_of_getLsbD_eq
  intro j _
  rw [mvm_getLsbD_of_single i fun k hk => by
    simp only [oneShiftLeft_getLsbD, Fin.val_inj, hk.symm, decide_false, Bool.false_and]]
  simp only [oneShiftLeft_getLsbD, decide_true, Bool.true_and]

theorem mvm_xor (M : Matrix) (a b : Word) : mvm M (a ^^^ b) = mvm M a ^^^ mvm M b := by
  apply BitVec.eq_of_getLsbD_eq
  intro j _
  simp only [BitVec.getLsbD_xor, mvm_getLsbD, ← foldr_xor_map_xor, Bool.and_xor_distrib_right]

theorem mvm_matrix_xor {M K N : Matrix} (h : ∀ i : Fin 32, N[i] = M[i] ^^^ K[i]) (a : Word) :
    mvm N a = mvm M a ^^^ mvm K a := by
  apply BitVec.eq_of_getLsbD_eq
  intro j _
  simp only [BitVec.getLsbD_xor, mvm_getLsbD, ← foldr_xor_map_xor, h, Bool.and_xor_distrib_left]

@[simp] theorem mvm_identity (a : Word) : mvm (Vector.ofFn fun i : Fin 32 => 1#32 <<< i.val) a = a := by
  apply BitVec.eq_of_getLsbD_eq
  intro j hj
  have hrow (k : Fin 32) : ((Vector.ofFn fun i : Fin 32 => 1#32 <<< i.val)[k]).getLsbD j = decide (k.val = j) := by
    rw [Fin.getElem_fin, Vector.getElem_ofFn, oneShiftLeft_getLsbD]
  rw [mvm_getLsbD_of_single ⟨j, hj⟩ fun k hk => by
    rw [hrow, decide_eq_false (mt Fin.ext hk), Bool.and_false], hrow]
  simp

@[simp] theorem mvm_zeroMatrix (a : Word) : mvm (Vector.replicate 32 0#32) a = 0#32 := by
  apply BitVec.eq_of_getLsbD_eq
  intro j _
  rw [mvm_getLsbD, foldr_xor_map_eq_false fun i _ => by simp, BitVec.getLsbD_zero]

theorem mvm_allOnes (M : Matrix) : mvm M 0xFFFFFFFF#32 = xorAll M.toList := by
  have hones (i : Fin 32) : (0xFFFFFFFF#32).getLsbD i = true := by
    revert i; decide
  have hrows : M.toList = (List.finRange 32).map fun i : Fin 32 => M[i] := by
    apply List.ext_getElem <;> simp
  simp only [mvm, hones, if_true, hrows]

/-! ### The loop (R101, R102) -/

theorem toNat_lt_two_pow_bitlen (n : Nat) : n < 2 ^ bitlen n := by
  unfold bitlen
  split
  · simp [*]
  · exact Nat.lt_log2_self

/-- The selected row of a single set bit, which past the last row is 0 like the shifted bit. -/
theorem mvm_oneShiftLeft_eq_getD (M : Matrix) (i : Nat) : mvm M (1#32 <<< i) = M.getD i 0#32 := by
  by_cases hi : i < 32
  · exact (mvm_oneShiftLeft M ⟨i, hi⟩).trans (by simp [Vector.getD, hi])
  · rw [BitVec.shiftLeft_eq_zero (by omega), mvm_zero]
    simp [Vector.getD, hi]

theorem eq_lowBit_xor_shiftLeft (v : Word) :
    v = (if v.getLsbD 0 then 1#32 else 0#32) ^^^ ((v >>> 1) <<< 1) := by
  apply BitVec.eq_of_getLsbD_eq
  intro k hk
  cases k with
  | zero => cases v.getLsbD 0 <;> simp
  | succ k => split <;> simp [Nat.add_comm 1 k, hk]

/-- The remaining vector at its place is its lowest bit and what the next iteration has. -/
theorem shiftLeft_eq_lowBit_xor (v : Word) (i : Nat) :
    v <<< i = (if v.getLsbD 0 then 1#32 <<< i else 0#32) ^^^ ((v >>> 1) <<< (i + 1)) := by
  conv_lhs => rw [eq_lowBit_xor_shiftLeft v]
  rw [BitVec.shiftLeft_xor_distrib, ← BitVec.shiftLeft_add, Nat.add_comm 1 i]
  split <;> simp

/-- The loop's invariant: `sum` is the product of the bits already seen, the rest stands at its place. -/
theorem mvmLoop_eq (M : Matrix) {fuel : Nat} (i : Nat) {v : Word} (sum : Word) (hv : v.toNat < 2 ^ fuel) :
    mvmLoop M fuel i v sum = sum ^^^ mvm M (v <<< i) := by
  induction fuel generalizing i v sum with
  | zero =>
    have hzero : v = 0#32 := by simpa [← BitVec.toNat_inj] using hv
    simp [mvmLoop, hzero]
  | succ fuel ih =>
    by_cases hzero : v = 0#32
    · simp [mvmLoop, hzero]
    · have hnext : (v >>> 1).toNat < 2 ^ fuel := by
        rw [BitVec.toNat_ushiftRight, Nat.shiftRight_eq_div_pow]
        omega
      rw [mvmLoop, if_neg hzero, ih _ _ hnext, shiftLeft_eq_lowBit_xor v i, mvm_xor]
      split
      · rw [mvm_oneShiftLeft_eq_getD, BitVec.xor_assoc]
      · simp

/-! ### The units (R106, R125) -/

theorem packMatrix_getLsbD (M : Matrix) (i j : Fin 32) :
    (packMatrix M).getLsbD (32 * i.val + j.val) = M[i].getLsbD j := by
  have hdiv : (32 * i.val + j.val) / 32 = i.val := by omega
  have hmod : (32 * i.val + j.val) % 32 = j.val := by omega
  have hlt : 32 * i.val + j.val < 1024 := by omega
  simp [packMatrix, hlt, hdiv, hmod, Vector.getD]

@[simp] theorem busRow_packMatrix (M : Matrix) (i : Fin 32) : busRow (packMatrix M) i = M[i] := by
  apply BitVec.eq_of_getLsbD_eq
  intro j hj
  simp [busRow, hj, packMatrix_getLsbD M i ⟨j, hj⟩]

@[simp] theorem mvmUnit_packMatrix (M : Matrix) (v : Word) : mvmUnit (packMatrix M) v = mvm M v := by
  apply BitVec.eq_of_getLsbD_eq
  intro j hj
  rw [mvmUnit, BitVec.getLsbD_ofFnLE, dif_pos hj, mvm_getLsbD]
  simp only [packMatrix_getLsbD M _ ⟨j, hj⟩]

theorem sqUnit_packMatrix (M : Matrix) : sqUnit (packMatrix M) = packMatrix (square M) := by
  simp [sqUnit, square]

end Sys2Proof.Machine

namespace Sys2Proof

open Machine

/-- Settles O21: the product's bits are parities over the rows of the bank and the old CRC1. -/
theorem mvmulMultipliesInPlace : Obligations.MvmulMultipliesInPlace := by
  intro s b
  exact ⟨_, exec_mvmul b s, rfl, rfl, fun j => mvm_getLsbD_eq_parity (s.bank b) s.crc1 j⟩

/-- Settles O24: the product is the only thing of a bank that MVMUL yields, and it does not see these rows. -/
theorem mvmulIgnoresUnselectedRows : Obligations.MvmulIgnoresUnselectedRows := by
  intro s s' b hcrc hrow
  have hproduct : s.product b = s'.product b := by
    rw [State.product, State.product, ← hcrc]
    exact mvm_congr hrow
  refine ⟨_, _, exec_mvmul b s, exec_mvmul b s', ?_, ?_⟩
  · simpa using hproduct
  · simpa using hproduct

/-- Settles O47. -/
theorem productBitByBit : Obligations.ProductBitByBit :=
  fun M v => ⟨mvm_zero M, fun j => mvm_getLsbD_eq_parity M v j⟩

/-- Settles O48: the loop's invariant at its start, where the whole vector is yet to be seen. -/
theorem loopComputesProduct : Obligations.LoopComputesProduct := by
  intro M v fuel hfuel
  have hv : v.toNat < 2 ^ fuel :=
    (toNat_lt_two_pow_bitlen v.toNat).trans_le (Nat.pow_le_pow_right (by decide) hfuel)
  simpa using mvmLoop_eq M 0 0#32 hv

/-- Settles O49, the laws (a) to (h) in their order. -/
theorem productLaws : Obligations.ProductLaws :=
  ⟨mvm_zero, mvm_oneShiftLeft, mvm_xor, fun _ _ _ a h => mvm_matrix_xor h a, mvm_identity, mvm_zeroMatrix,
    mvm_allOnes, fun _ _ _ h => mvm_congr h⟩

/-- Settles O57. -/
theorem unitsComputeFunctions : Obligations.UnitsComputeFunctions :=
  fun M v => ⟨busRow_packMatrix M, mvmUnit_packMatrix M v, sqUnit_packMatrix M⟩

end Sys2Proof

/-! ## The squaring: its laws, MSQUARE, and the rows that the squaring phases read (R120 to R127) -/

namespace Sys2Proof.Machine

/-! ### The laws of the squaring (R121, R124) -/

/-- The product with a matrix passes through the XOR of any number of words (R105 (c)). -/
theorem mvm_xorAll (M : Matrix) (ws : List Word) : mvm M (xorAll ws) = xorAll (ws.map (mvm M)) := by
  induction ws with
  | nil => exact mvm_zero M
  | cons w ws ih => rw [xorAll_cons, mvm_xor, ih, List.map_cons, xorAll_cons]

/-- Each selected row of the square is the image of the row of the source, so the product with `S` stands
outside the XOR (R121). -/
theorem mvm_square (S : Matrix) (v : Word) : mvm (square S) v = mvm S (mvm S v) := by
  conv_rhs => arg 2; rw [mvm]
  rw [mvm_xorAll, List.map_map, mvm]
  congr 1
  refine List.map_congr_left fun i _ => ?_
  rw [Function.comp_apply, square_getElem]
  split
  · rfl
  · exact (mvm_zero S).symm

/-- R124 (a). -/
theorem square_identity :
    square (Vector.ofFn fun i : Fin 32 => 1#32 <<< i.val) = Vector.ofFn fun i : Fin 32 => 1#32 <<< i.val := by
  apply Vector.ext
  intro i hi
  exact (square_getElem _ ⟨i, hi⟩).trans (mvm_identity _)

/-- R124 (b). -/
theorem square_zeroMatrix : square (Vector.replicate 32 0#32) = Vector.replicate 32 0#32 := by
  apply Vector.ext
  intro i hi
  rw [Vector.getElem_replicate]
  exact (square_getElem _ ⟨i, hi⟩).trans (mvm_zeroMatrix _)

/-- Row `i` of a square sees row `i` of the source and the rows that it selects (R124 (c)). -/
theorem square_row_congr {S T : Matrix} {i : Fin 32} (hi : S[i] = T[i])
    (h : ∀ j : Fin 32, S[i].getLsbD j = true → S[j] = T[j]) : (square S)[i] = (square T)[i] := by
  rw [square_getElem, square_getElem, ← hi]
  exact mvm_congr h

/-- The square of the operator that applies `f` `n` times applies it `2n` times (R124 (e)). -/
theorem mvm_square_of_iterate {S : Matrix} {f : Word → Word} {n : Nat} (h : ∀ v, mvm S v = f^[n] v) (v : Word) :
    mvm (square S) v = f^[2 * n] v := by
  rw [mvm_square, h, h, ← Function.iterate_add_apply, Nat.two_mul]

/-- R124 (d). -/
theorem mvm_iterate_square (S : Matrix) (k : Nat) (v : Word) : mvm (square^[k] S) v = (mvm S)^[2 ^ k] v := by
  induction k generalizing v with
  | zero => rfl
  | succ k ih => rw [Function.iterate_succ_apply', mvm_square_of_iterate ih, pow_succ']

/-- The matrix whose one row that is not 0 is row `i`, holding `w`. -/
def singleRow (i : Fin 32) (w : Word) : Matrix := (Vector.replicate 32 0#32).set i w

/-- One matrix sends bit 0 to bit 1, the other bit 1 to bit 0, and each sends all else to 0. Either applied twice
sends bit 0 to 0, their sum applied twice sends it back to itself (R124 (f)). -/
theorem square_not_linear : ∃ A B C : Matrix, (∀ i : Fin 32, C[i] = A[i] ^^^ B[i]) ∧
    ∃ i : Fin 32, (square C)[i] ≠ (square A)[i] ^^^ (square B)[i] := by
  refine ⟨singleRow 0 2#32, singleRow 1 1#32, (singleRow 0 2#32).set 1 1#32, by decide, 0, ?_⟩
  simp only [square_getElem]
  decide

/-! ### MSQUARE (R126) -/

/-- MSQUARE answers OK; the destination is the square of the other bank, which stays (R126). -/
theorem exec_msquare_rows (s : State) (d : Bank) :
    ∃ t, exec (.msquare d) s = .next t ∧ t.rsp = some ⟨.ok, 0#32⟩ ∧
      t.bank (otherBank d) = s.bank (otherBank d) ∧
      (∀ i : Fin 32, t.readRow d i = mvm (s.bank (otherBank d)) (s.bank (otherBank d))[i]) ∧
      ∀ k, t.rowDefined d k = true :=
  ⟨_, exec_msquare d s, rfl, by simp, fun i => by simp, fun k => by simp⟩

/-! ### The marks through the phases (R127) -/

/-- With its source written, a squaring leaves both banks written. -/
theorem State.squareInto_all_written {s : State} {d : Bank} (h : ∀ k, s.rowDefined (otherBank d) k = true)
    (b : Bank) (k : Fin 32) : (s.squareInto d).rowDefined b k = true := by
  rw [State.squareInto_rowDefined]
  obtain rfl | rfl : b = d ∨ b = otherBank d := by cases b <;> cases d <;> simp [otherBank]
  · simp
  · simp [h k]

@[simp] theorem State.applyShift_rowDefined (s : State) (b c : Bank) (again : Phase) (k : Fin 32) :
    (s.applyShift b again).rowDefined c k = s.rowDefined c k := by
  cases h : s.len.getLsbD 0 with
  | false => simp [State.applyShift_of_no_bit h]
  | true => simp [State.applyShift_of_bit h]

theorem State.phaseStep_of_cInit {s : State} (h : s.ph = .cInit) : s.phaseStep = s.loadBase.setPhase .cSq0 := by
  rw [State.phaseStep, h, State.phaseInit]

/-- An instruction starts the engine or leaves PH (R164). -/
theorem exec_ph {i : Instr} {s t : State} (h : exec i s = .next t) : t.ph = s.ph ∨ t.ph = .cInit := by
  cases i with
  | combine =>
    obtain ⟨-, rfl⟩ | ⟨-, rfl⟩ := exec_combine_cases h
    · exact .inl rfl
    · exact .inr rfl
  | wrs r v =>
    cases h
    cases r <;> exact .inl rfl
  | msquare d =>
    cases h
    obtain ⟨-, -, -, hph, -⟩ := s.squareInto_frame d
    exact .inl hph
  | _ =>
    cases h
    exact .inl (by simp [State.loadBase])

end Sys2Proof.Machine

namespace Sys2Proof

open Machine

section Marks

variable {s : State}

/-- Before C_SQ0 nothing is asked of the marks: C_INIT is yet to write the first source (R127). -/
theorem MarksInv.of_not_loaded (hp : s.ph = .idle ∨ s.ph = .cInit) : MarksInv s := by
  obtain hp | hp := hp <;> simp [MarksInv, hp]

theorem MarksInv.of_all_written (h : ∀ b k, s.rowDefined b k = true) : MarksInv s := by
  unfold MarksInv
  cases s.ph with
  | idle | cInit => trivial
  | cSq0 => exact h .odd
  | _ => exact h

/-- A squaring phase squares a bank that is written in full (R127). -/
theorem MarksInv.phaseStep_of_squares (h : MarksInv s) (hp : s.ph.squares = true) :
    ∃ d p, s.phaseStep = (s.squareInto d).setPhase p ∧ ∀ k, s.rowDefined (otherBank d) k = true := by
  unfold MarksInv at h
  unfold State.phaseStep
  generalize s.ph = ph at h hp ⊢
  cases ph with
  | cSq0 => exact ⟨.even, _, rfl, h⟩
  | cSqe => exact ⟨.even, _, rfl, h .odd⟩
  | cSq1 | cSqo => exact ⟨.odd, _, rfl, h .even⟩
  | idle | cInit | cApe | cApo | cFin => cases hp

theorem MarksInv.phaseStep_recorded (h : MarksInv s) (hp : s.ph.squares = true) :
    s.phaseStep.recorded = s.recorded := by
  obtain ⟨d, p, he, hsource⟩ := h.phaseStep_of_squares hp
  rw [he, State.setPhase_recorded, State.squareInto_recorded, if_pos ((s.bankDefined_iff _).mpr hsource)]

/-- C_INIT writes the first source, each squaring the next one, and no phase takes a mark away. -/
theorem MarksInv.phaseStep (h : MarksInv s) : MarksInv s.phaseStep := by
  cases hp : s.ph with
  | idle => rwa [State.phaseStep_of_ph hp]
  | cInit =>
    rw [State.phaseStep_of_cInit hp]
    exact fun k => by simp
  | cSq0 | cSq1 | cSqe | cSqo =>
    obtain ⟨d, p, he, hsource⟩ := h.phaseStep_of_squares (by rw [hp]; rfl)
    rw [he]
    exact .of_all_written fun b k => by simpa using State.squareInto_all_written hsource b k
  | cApe =>
    rw [State.phaseStep_of_cApe hp]
    exact .of_all_written (by simpa [MarksInv, hp] using h)
  | cApo =>
    rw [State.phaseStep_of_cApo hp]
    exact .of_all_written (by simpa [MarksInv, hp] using h)
  | cFin =>
    rw [State.phaseStep_of_cFin hp]
    exact .of_not_loaded (.inl rfl)

end Marks

/-- Settles O20, for each of the two destinations. -/
theorem msquareSquaresOtherBank : Obligations.MsquareSquaresOtherBank :=
  fun s => ⟨exec_msquare_rows s .even, exec_msquare_rows s .odd⟩

/-- Settles O44: reset and the instructions end where nothing is asked of the marks, and the phases keep what is
asked. -/
theorem squaringPhasesReadWrittenRows : Obligations.SquaringPhasesReadWrittenRows := by
  intro s t h ht
  obtain ⟨hr, rfl⟩ | ⟨-, -, rfl⟩ | ⟨-, -, -, rfl⟩ | ⟨c, e, -, -, -, -, rfl⟩ | ⟨c, i, -, hb, -, -, he⟩ :=
    step_cases ht
  · exact ⟨.of_not_loaded (.inl rfl), fun hr' => by simp [hr] at hr'⟩
  · have htick : MarksInv s.tick := h
    exact ⟨htick.phaseStep, fun _ hp => htick.phaseStep_recorded hp⟩
  · exact ⟨h, fun _ _ => rfl⟩
  · exact ⟨h, fun _ _ => rfl⟩
  · have hidle := s.not_busy_iff.mp hb
    refine ⟨.of_not_loaded ?_, fun _ hp => by simp [hidle, Phase.squares] at hp⟩
    exact (exec_ph he).imp_left fun hph => hph.trans hidle

/-- Settles O50. -/
theorem squareAppliesTwice : Obligations.SquareAppliesTwice := mvm_square

/-- Settles O51, the laws (a) to (f) in their order. -/
theorem squareLaws : Obligations.SquareLaws :=
  ⟨square_identity, square_zeroMatrix, fun _ _ _ hi h => square_row_congr hi h, mvm_iterate_square,
    fun _ _ h => mvm_square_of_iterate h, square_not_linear⟩

end Sys2Proof

/-! ## The engine's phases: the transition table, each phase's whole step, and the invariants (R154 to R164) -/

namespace Sys2Proof.Machine

/-! ### The squaring phases, and the fields the shared operations leave -/

section Phases

variable {s : State}

theorem State.phaseStep_of_cSq0 (h : s.ph = .cSq0) : s.phaseStep = (s.squareInto .even).setPhase .cSq1 := by
  rw [State.phaseStep, h, State.phaseSq0]

theorem State.phaseStep_of_cSq1 (h : s.ph = .cSq1) : s.phaseStep = (s.squareInto .odd).setPhase .cSqe := by
  rw [State.phaseStep, h, State.phaseSq1]

theorem State.phaseStep_of_cSqe (h : s.ph = .cSqe) : s.phaseStep = (s.squareInto .even).setPhase .cApe := by
  rw [State.phaseStep, h, State.phaseSqe]

theorem State.phaseStep_of_cSqo (h : s.ph = .cSqo) : s.phaseStep = (s.squareInto .odd).setPhase .cApo := by
  rw [State.phaseStep, h, State.phaseSqo]

/-- The phase after an apply half: C_FIN if no bit of the length is left (R159, R161). -/
theorem State.applyShift_ph (s : State) (b : Bank) (again : Phase) :
    (s.applyShift b again).ph = if s.len >>> 1 = 0#32 then .cFin else again := by
  obtain ⟨-, -, -, -, -, hph, -⟩ := s.applyShift_fields b again
  exact hph

theorem State.applyShift_len (s : State) (b : Bank) (again : Phase) :
    (s.applyShift b again).len = s.len >>> 1 := by
  obtain ⟨-, -, hlen, -⟩ := s.applyShift_fields b again
  exact hlen

theorem State.applyShift_crc1 (s : State) (b : Bank) (again : Phase) :
    (s.applyShift b again).crc1 = applyIf (s.len.getLsbD 0) (s.bank b) s.crc1 := by
  obtain ⟨hcrc1, -⟩ := s.applyShift_fields b again
  exact hcrc1

@[simp] theorem State.applyShift_bank (s : State) (b c : Bank) (again : Phase) :
    (s.applyShift b again).bank c = s.bank c := by
  obtain ⟨-, -, -, heven, hodd, -⟩ := s.applyShift_fields b again
  cases c
  · exact heven
  · exact hodd

/-- A squaring into EVEN changes EVEN, the marks and the fault record, nothing else (R126). -/
theorem State.squareInto_even_eq (s : State) :
    s.squareInto .even = { s with
      even := square s.odd, written := (s.squareInto .even).written, recorded := (s.squareInto .even).recorded } := rfl

/-- A squaring into ODD changes ODD, the marks and the fault record, nothing else (R126). -/
theorem State.squareInto_odd_eq (s : State) :
    s.squareInto .odd = { s with
      odd := square s.even, written := (s.squareInto .odd).written, recorded := (s.squareInto .odd).recorded } := rfl

/-- An apply half changes CRC1, LEN, PH, the marks and the fault record, nothing else (R159, R161). -/
theorem State.applyShift_eq (s : State) (b : Bank) (again : Phase) :
    s.applyShift b again =
      { s with
        ph := (s.applyShift b again).ph, crc1 := (s.applyShift b again).crc1, len := (s.applyShift b again).len,
        written := (s.applyShift b again).written, recorded := (s.applyShift b again).recorded } := by
  cases hbit : s.len.getLsbD 0 with
  | false => rw [State.applyShift_of_no_bit hbit]; rfl
  | true => rw [State.applyShift_of_bit hbit]; rfl

@[simp] theorem State.squareInto_len (s : State) (d : Bank) : (s.squareInto d).len = s.len := by
  simp [State.squareInto]

@[simp] theorem State.loadBase_len (s : State) : s.loadBase.len = s.len := rfl

end Phases

/-! ### The transition table (R164) -/

/-- The stop test, on the old length. -/
theorem ushiftRight_one_eq_zero_iff (n : Word) : n >>> 1 = 0#32 ↔ n.toNat ≤ 1 := by
  rw [← BitVec.toNat_inj, BitVec.toNat_ushiftRight, Nat.shiftRight_eq_div_pow, BitVec.toNat_ofNat]
  omega

/-- COMBINE is the one legal word 0x8000 (R76). -/
theorem decode_eq_combine_iff (c : Command) : decode c = .ok .combine ↔ c.cmd = 0x8000#16 := by
  constructor
  · intro h
    obtain ⟨op, ho, hz, -, hi⟩ := decode_eq_ok h
    rw [← encode_instrOf ho hz, ← hi]
    rfl
  · intro h
    have hencode : c.cmd = (encode .combine).cmd := h
    obtain ⟨cmd, v⟩ := c
    subst hencode
    exact decode_encode_cmd rfl v

/-- No instruction but a COMBINE with LEN != 0 moves PH (R164). -/
theorem exec_ph_eq {i : Instr} {s t : State} (h : exec i s = .next t) (hi : ¬ (i = .combine ∧ s.len ≠ 0#32)) :
    t.ph = s.ph := by
  cases i with
  | combine =>
    obtain ⟨-, rfl⟩ | ⟨hz, -⟩ := exec_combine_cases h
    · rfl
    · exact absurd ⟨rfl, hz⟩ hi
  | wrs r v =>
    cases h
    cases r <;> rfl
  | msquare d =>
    cases h
    obtain ⟨-, -, -, hph, -⟩ := s.squareInto_frame d
    exact hph
  | _ =>
    cases h
    simp [State.loadBase]

/-- An instruction run by the idle block leaves it idle, or starts the engine with LEN != 0 and DONE = 0. -/
theorem exec_idle_or_started {i : Instr} {s t : State} (h : exec i s = .next t) (hp : s.ph = .idle) :
    t.ph = .idle ∨ (t.ph = .cInit ∧ t.len ≠ 0#32 ∧ t.done = false) := by
  by_cases hi : i = .combine ∧ s.len ≠ 0#32
  · obtain ⟨rfl, hz⟩ := hi
    rw [exec_combine_ne_zero hz] at h
    cases h
    exact .inr ⟨rfl, hz, rfl⟩
  · exact .inl ((exec_ph_eq h hi).trans hp)

/-- The rows of the transition table for a busy block. -/
def nextPhase (p : Phase) (len : Word) : Phase :=
  match p with
  | .idle => .idle
  | .cInit => .cSq0
  | .cSq0 => .cSq1
  | .cSq1 => .cSqe
  | .cSqe => .cApe
  | .cApe => if len.toNat ≤ 1 then .cFin else .cSqo
  | .cSqo => .cApo
  | .cApo => if len.toNat ≤ 1 then .cFin else .cSqe
  | .cFin => .idle

theorem State.phaseStep_ph (s : State) : s.phaseStep.ph = nextPhase s.ph s.len := by
  cases hp : s.ph with
  | idle => rwa [State.phaseStep_of_ph hp]
  | cInit => rw [State.phaseStep_of_cInit hp]; rfl
  | cSq0 => rw [State.phaseStep_of_cSq0 hp]; rfl
  | cSq1 => rw [State.phaseStep_of_cSq1 hp]; rfl
  | cSqe => rw [State.phaseStep_of_cSqe hp]; rfl
  | cSqo => rw [State.phaseStep_of_cSqo hp]; rfl
  | cApe => simp [State.phaseStep_of_cApe hp, State.applyShift_ph, ushiftRight_one_eq_zero_iff, nextPhase]
  | cApo => simp [State.phaseStep_of_cApo hp, State.applyShift_ph, ushiftRight_one_eq_zero_iff, nextPhase]
  | cFin => rw [State.phaseStep_of_cFin hp]; rfl

/-- The apply phases alone shift LEN. -/
theorem State.phaseStep_len (s : State) :
    s.phaseStep.len = if s.ph = .cApe ∨ s.ph = .cApo then s.len >>> 1 else s.len := by
  obtain ⟨hp, h⟩ | ⟨hp, h⟩ | ⟨p, hp | hp, h⟩ | ⟨p, hp | hp, h⟩ | ⟨b, again, hp, h⟩ | ⟨hp, h⟩ := s.phaseStep_cases
  case inr.inr.inr.inr.inl => rw [h, State.applyShift_len, if_pos hp]
  all_goals simp [h, hp, State.phaseFin]

end Sys2Proof.Machine

namespace Sys2Proof

open Machine

section Invariants

variable {s : State}

/-! ### The operators in the banks (R142, R144, R145) -/

/-- Outside the phases from C_SQ0 on nothing is asked of the banks. -/
theorem BankInv.of_not_loaded (hp : s.ph = .idle ∨ s.ph = .cInit) : BankInv s := by
  obtain hp | hp := hp <;> simp [BankInv, hp]

/-- A squaring raises the operator of its source by one place, an apply half keeps both banks. -/
theorem BankInv.phaseStep (h : BankInv s) : BankInv s.phaseStep := by
  unfold BankInv at h
  cases hp : s.ph with
  | idle => exact .of_not_loaded (.inl (by rwa [State.phaseStep_of_ph hp]))
  | cInit =>
    rw [State.phaseStep_of_cInit hp]
    exact op_zero.symm
  | cSq0 =>
    have hodd : s.odd = op 0 := by simpa [hp] using h
    rw [State.phaseStep_of_cSq0 hp, State.squareInto_even_eq, hodd]
    exact ⟨rfl, (op_succ 0).symm⟩
  | cSq1 =>
    obtain ⟨-, heven⟩ : s.odd = op 0 ∧ s.even = op 1 := by simpa [hp] using h
    rw [State.phaseStep_of_cSq1 hp, State.squareInto_odd_eq, heven]
    exact ⟨0, (op_succ 1).symm, rfl⟩
  | cSqe =>
    obtain ⟨j, hodd, -⟩ : ∃ j, s.odd = op (2 * j + 2) ∧ s.even = op (2 * j + 1) := by simpa [hp] using h
    rw [State.phaseStep_of_cSqe hp, State.squareInto_even_eq, hodd]
    exact ⟨j, (op_succ _).symm, rfl⟩
  | cSqo =>
    obtain ⟨j, heven, -⟩ : ∃ j, s.even = op (2 * j + 3) ∧ s.odd = op (2 * j + 2) := by simpa [hp] using h
    rw [State.phaseStep_of_cSqo hp, State.squareInto_odd_eq, heven]
    exact ⟨j, (op_succ _).symm, rfl⟩
  | cApe =>
    obtain ⟨j, heven, hodd⟩ : ∃ j, s.even = op (2 * j + 3) ∧ s.odd = op (2 * j + 2) := by simpa [hp] using h
    obtain ⟨-, -, -, heven', hodd', hph, -⟩ := s.applyShift_fields .even .cSqo
    rw [State.phaseStep_of_cApe hp, BankInv, hph, heven', hodd']
    split_ifs
    · exact ⟨2 * j, .inl ⟨heven, hodd⟩⟩
    · exact ⟨j, heven, hodd⟩
  | cApo =>
    obtain ⟨j, hodd, heven⟩ : ∃ j, s.odd = op (2 * j + 4) ∧ s.even = op (2 * j + 3) := by simpa [hp] using h
    obtain ⟨-, -, -, heven', hodd', hph, -⟩ := s.applyShift_fields .odd .cSqe
    rw [State.phaseStep_of_cApo hp, BankInv, hph, heven', hodd']
    split_ifs
    · exact ⟨2 * j + 1, .inr ⟨hodd, heven⟩⟩
    · exact ⟨j + 1, hodd, heven⟩
  | cFin => exact .of_not_loaded (.inl (by rw [State.phaseStep_of_cFin hp]; rfl))

/-! ### LEN and DONE while a COMBINE is in flight (R27, R164) -/

/-- While a COMBINE is in flight, LEN is 0 exactly at C_FIN. -/
theorem lengthInv_iff (s : State) : LengthInv s ↔ (s.ph ≠ .idle → (s.len = 0#32 ↔ s.ph = .cFin)) := by
  unfold LengthInv
  cases s.ph <;> simp

theorem LengthInv.phaseStep (h : LengthInv s) : LengthInv s.phaseStep := by
  rw [lengthInv_iff] at h ⊢
  rw [State.phaseStep_ph, State.phaseStep_len]
  cases hp : s.ph with
  | idle | cFin => exact fun hidle => absurd rfl hidle
  | cInit | cSq0 | cSq1 | cSqe | cSqo => simpa [hp, nextPhase] using h
  | cApe | cApo =>
    intro _
    by_cases hstop : s.len.toNat ≤ 1 <;> simp [nextPhase, ushiftRight_one_eq_zero_iff, hstop]

theorem DoneInv.phaseStep (h : DoneInv s) : DoneInv s.phaseStep := by
  intro hbusy
  rw [State.phaseStep_ph] at hbusy
  have hidle : s.ph ≠ .idle := fun hp => hbusy (by rw [hp, nextPhase])
  have hfin : s.ph ≠ .cFin := fun hp => hbusy (by rw [hp, nextPhase])
  rw [State.phaseStep_done hfin]
  exact h hidle

end Invariants

/-- Settles O43: reset and the instructions end where nothing is asked of the banks, and every phase keeps what is
asked. -/
theorem stepKeepsBankOperators : Obligations.StepKeepsBankOperators := by
  intro s t h ht
  obtain ⟨-, rfl⟩ | ⟨-, -, rfl⟩ | ⟨-, -, -, rfl⟩ | ⟨c, e, -, -, -, -, rfl⟩ | ⟨c, i, -, hb, -, -, he⟩ := step_cases ht
  · exact .of_not_loaded (.inl rfl)
  · exact BankInv.phaseStep (s := s.tick) h
  · exact h
  · exact h
  · exact .of_not_loaded ((exec_ph he).imp_left fun hph => hph.trans (s.not_busy_iff.mp hb))

/-- Settles O42: a COMBINE starts with LEN != 0 and DONE = 0, and every phase keeps both invariants. -/
theorem stepKeepsLengthAndDone : Obligations.StepKeepsLengthAndDone := by
  intro s t hl hd ht
  obtain ⟨-, rfl⟩ | ⟨-, -, rfl⟩ | ⟨-, -, -, rfl⟩ | ⟨c, e, -, -, -, -, rfl⟩ | ⟨c, i, -, hb, -, -, he⟩ := step_cases ht
  · exact ⟨trivial, fun hidle => absurd rfl hidle⟩
  · exact ⟨LengthInv.phaseStep (s := s.tick) hl, DoneInv.phaseStep (s := s.tick) hd⟩
  · exact ⟨hl, hd⟩
  · exact ⟨hl, hd⟩
  · rw [lengthInv_iff, DoneInv]
    obtain hidle | ⟨hinit, hlen, hdone⟩ := exec_idle_or_started he (s.not_busy_iff.mp hb)
    · simp [hidle]
    · simp [hinit, hlen, hdone]

/-- Settles O33: the clauses of IDLE by what the port holds, the others by the table of the phases. -/
theorem phaseTransitions : Obligations.PhaseTransitions := by
  intro s
  obtain ⟨t, ht⟩ := step_next s
  refine ⟨t, ht, fun hr => ?_, fun hr => ⟨fun hp hc hlen => ?_, fun hp hn => ?_, ?_⟩⟩
  · rw [step_of_rst hr] at ht
    cases ht
    rfl
  · obtain ⟨c, hc, hcmd⟩ := Option.map_eq_some_iff.mp hc
    rw [step_of_legal hr hp hc ((decode_eq_combine_iff c).mpr hcmd), exec_combine_ne_zero (s := s.accept) hlen] at ht
    cases ht
    rfl
  · obtain ⟨hr', -⟩ | ⟨-, hb, -⟩ | ⟨-, -, -, rfl⟩ | ⟨c, e, -, -, -, -, rfl⟩ | ⟨c, i, -, -, hc, hd, he⟩ :=
      step_cases ht
    · simp [hr] at hr'
    · exact absurd hp (s.busy_iff.mp hb)
    · exact hp
    · exact hp
    · refine (exec_ph_eq he ?_).trans hp
      rintro ⟨rfl, hlen⟩
      exact hn ⟨by rw [hc, Option.map_some, (decode_eq_combine_iff c).mp hd], hlen⟩
  · have hphase (hp : s.ph ≠ .idle) : t.ph = nextPhase s.ph s.len := by
      rw [step_of_phase hr hp] at ht
      cases ht
      exact s.tick.phaseStep_ph
    refine ⟨?_, ?_, ?_, ?_, ?_, ?_, ?_, ?_⟩ <;>
    · intro hp
      simpa [hp, nextPhase] using hphase

/-! ### Each phase's whole step (R155 to R162), and the instructions that work on the engine's registers -/

/-- Settles O34: the state of each set-up phase, written out; all the fields it leaves are those of `s`. -/
theorem setupPhases : Obligations.SetupPhases := by
  refine fun s hr => ⟨fun hp => ?_, fun hp => ?_, fun hp => ?_⟩
  · refine ⟨_, step_of_phase hr (by simp [hp]), ?_⟩
    rw [State.phaseStep_of_cInit (s := s.tick) hp]
    exact ⟨base_getElem 0, fun k hk => (base_getElem k).trans (if_neg hk), rfl⟩
  · refine ⟨_, step_of_phase hr (by simp [hp]), ?_⟩
    rw [State.phaseStep_of_cSq0 (s := s.tick) hp, State.squareInto_even_eq]
    exact ⟨rfl, rfl⟩
  · refine ⟨_, step_of_phase hr (by simp [hp]), ?_⟩
    rw [State.phaseStep_of_cSq1 (s := s.tick) hp, State.squareInto_odd_eq]
    exact ⟨rfl, rfl⟩

/-- Settles O35. -/
theorem loopSquaringPhases : Obligations.LoopSquaringPhases := by
  refine fun s hr => ⟨fun hp => ?_, fun hp => ?_⟩
  · refine ⟨_, step_of_phase hr (by simp [hp]), ?_⟩
    rw [State.phaseStep_of_cSqe (s := s.tick) hp, State.squareInto_even_eq]
    exact ⟨rfl, rfl⟩
  · refine ⟨_, step_of_phase hr (by simp [hp]), ?_⟩
    rw [State.phaseStep_of_cSqo (s := s.tick) hp, State.squareInto_odd_eq]
    exact ⟨rfl, rfl⟩

/-- Settles O36: both apply phases are the shared apply half on the state with its pins passed on. -/
theorem applyPhases : Obligations.ApplyPhases := by
  refine fun s hr => ⟨fun hp => ?_, fun hp => ?_⟩
  · refine ⟨_, step_of_phase hr (by simp [hp]), ?_⟩
    rw [State.phaseStep_of_cApe (s := s.tick) hp]
    refine ⟨State.applyShift_len .., State.applyShift_crc1 .., State.applyShift_ph .., ?_⟩
    rw [s.tick.applyShift_eq]
    rfl
  · refine ⟨_, step_of_phase hr (by simp [hp]), ?_⟩
    rw [State.phaseStep_of_cApo (s := s.tick) hp]
    refine ⟨State.applyShift_len .., State.applyShift_crc1 .., State.applyShift_ph .., ?_⟩
    rw [s.tick.applyShift_eq]
    rfl

/-- Settles O37. -/
theorem finalPhase : Obligations.FinalPhase := by
  intro s hr hp
  refine ⟨_, step_of_phase hr (by simp [hp]), ?_⟩
  rw [State.phaseStep_of_cFin (s := s.tick) hp]
  exact ⟨rfl, rfl⟩

/-- Settles O10: with nothing presented the port's list is empty or begins with a silent step. -/
theorem idleBlockKeepsState : Obligations.IdleBlockKeepsState := by
  intro s hr hp hc
  have hport : s.tick.cmdIn = s.cmdIn.tail := by
    rw [State.presented] at hc
    rw [State.tick_cmdIn]
    generalize s.cmdIn = port at hc ⊢
    cases port with
    | nil => rfl
    | cons c rest =>
      obtain rfl : c = none := hc
      rfl
  rw [step_of_silent hr (s.not_busy_iff.mpr hp) hc, ← hport]
  rfl

/-- Settles O19. -/
theorem minitLoadsBaseOperator : Obligations.MinitLoadsBaseOperator :=
  fun s => ⟨_, exec_minit s, rfl, base_getElem 0, fun k hk => (base_getElem k).trans (if_neg hk), fun k => by simp⟩

/-- Settles O22. -/
theorem combineAcceptance : Obligations.CombineAcceptance :=
  fun _ => ⟨fun hz => ⟨_, exec_combine_zero hz, rfl, rfl, rfl⟩, fun hz => ⟨_, exec_combine_ne_zero hz, rfl, rfl, rfl⟩⟩

end Sys2Proof

/-! ## The operators as powers of one bit step, and combine as that step repeated (R140 to R154) -/

namespace Sys2Proof.Machine

/-! ### Maps that pass through XOR -/

/-- `f` is linear over GF(2). -/
def XorLinear (f : Word → Word) : Prop := ∀ a b, f (a ^^^ b) = f a ^^^ f b

section Linear

variable {f : Word → Word}

theorem XorLinear.map_zero (hf : XorLinear f) : f 0#32 = 0#32 := by
  simpa using hf 0#32 0#32

theorem XorLinear.map_xorAll (hf : XorLinear f) (ws : List Word) : f (xorAll ws) = xorAll (ws.map f) := by
  induction ws with
  | nil => exact hf.map_zero
  | cons w ws ih => rw [xorAll_cons, hf, ih, List.map_cons, xorAll_cons]

theorem XorLinear.iterate (hf : XorLinear f) (k : Nat) : XorLinear f^[k] := by
  induction k with
  | zero => exact fun _ _ => rfl
  | succ k ih =>
    intro a b
    rw [Function.iterate_succ_apply', Function.iterate_succ_apply', Function.iterate_succ_apply', ih, hf]

/-- A linear map is the product with the matrix of its images of the unit vectors. -/
theorem XorLinear.mvm_eq (hf : XorLinear f) {M : Matrix} (hrow : ∀ i : Fin 32, M[i] = f (1#32 <<< i.val))
    (v : Word) : mvm M v = f v := by
  conv_rhs => rw [← mvm_identity v, mvm]
  rw [hf.map_xorAll, List.map_map, mvm]
  congr 1
  refine List.map_congr_left fun i _ => ?_
  rw [Function.comp_apply]
  split
  · simp [hrow i]
  · exact hf.map_zero.symm

end Linear

/-! ### BASE is the bit step of the CRC (R140, R141) -/

theorem crcBit_xorLinear : XorLinear crcBit := by
  intro a b
  have hlow : (if (a ^^^ b).getLsbD 0 then Config.poly else 0#32) =
      (if a.getLsbD 0 then Config.poly else 0#32) ^^^ (if b.getLsbD 0 then Config.poly else 0#32) := by
    rw [BitVec.getLsbD_xor]
    cases a.getLsbD 0 <;> cases b.getLsbD 0 <;> simp
  rw [crcBit, crcBit, crcBit, hlow, BitVec.ushiftRight_xor_distrib]
  ac_rfl

theorem mvm_base (v : Word) : mvm base v = crcBit v := by
  refine crcBit_xorLinear.mvm_eq (fun i => ?_) v
  rw [base_getElem]
  revert i
  decide

/-- Only a vector of 0 steps to 0: a set bit 0 brings in bit 31 of the polynomial. -/
theorem eq_zero_of_crcBit_eq_zero {v : Word} (h : crcBit v = 0#32) : v = 0#32 := by
  have hlow : (v.getLsbD 0).toNat = v.toNat % 2 := by
    rw [BitVec.getLsbD, Nat.toNat_testBit, pow_zero, Nat.div_one]
  have hhigh := congrArg BitVec.toNat (BitVec.xor_eq_zero_iff.mp h)
  have hlt := v.isLt
  rw [BitVec.toNat_ushiftRight, Nat.shiftRight_eq_div_pow] at hhigh
  rw [← BitVec.toNat_inj, BitVec.toNat_ofNat]
  cases hbit : v.getLsbD 0 with
  | false =>
    rw [hbit] at hlow hhigh
    have hhalf : v.toNat / 2 = 0 := hhigh
    have heven : 0 = v.toNat % 2 := hlow
    omega
  | true =>
    rw [hbit] at hhigh
    have hhalf : v.toNat / 2 = 0xEDB88320 := hhigh
    omega

theorem crcBit_injective : Function.Injective crcBit := by
  intro a b h
  have hxor : crcBit (a ^^^ b) = 0#32 := by rw [crcBit_xorLinear, h, BitVec.xor_self]
  exact BitVec.xor_eq_zero_iff.mp (eq_zero_of_crcBit_eq_zero hxor)

/-! ### The operators (R142) -/

/-- OP(2^j) takes 2^j bit steps. -/
theorem mvm_op (j : Nat) (v : Word) : mvm (op j) v = crcBit^[2 ^ j] v := by
  induction j generalizing v with
  | zero => exact mvm_base v
  | succ j ih => rw [op_succ, mvm_square_of_iterate ih, pow_succ']

theorem op_getElem (j : Nat) (i : Fin 32) : (op j)[i] = crcBit^[2 ^ j] (1#32 <<< i.val) := by
  rw [← mvm_op, mvm_oneShiftLeft]

/-- The conditional apply of OP(2^k) takes 2^k bit steps or none (R145). -/
theorem applyIf_op (bit : Bool) (k : Nat) (c : Word) : applyIf bit (op k) c = crcBit^[2 ^ k * bit.toNat] c := by
  cases bit with
  | false => rfl
  | true => rw [applyIf, if_pos rfl, mvm_op, Bool.toNat_true, Nat.mul_one]

/-! ### combine in closed form (R146, R151) -/

theorem toNat_ne_zero {w : Nat} {n : BitVec w} (h : n ≠ 0) : n.toNat ≠ 0 :=
  fun hzero => h (BitVec.eq_of_toNat_eq (by simpa using hzero))

/-- A half-iteration takes the lowest bit's share of the `2^k * n` bit steps, and leaves the next half `2^(k+1)`
for each unit of the shifted length. -/
theorem iterate_applyIf {w : Nat} (k : Nat) (c : Word) (n : BitVec w) :
    crcBit^[2 ^ (k + 1) * (n >>> 1).toNat] (applyIf (n.getLsbD 0) (op k) c) = crcBit^[2 ^ k * n.toNat] c := by
  have hsplit : 2 * (n >>> 1).toNat + (n.getLsbD 0).toNat = n.toNat := by
    rw [BitVec.toNat_ushiftRight, Nat.shiftRight_eq_div_pow, BitVec.getLsbD, Nat.toNat_testBit]
    omega
  rw [applyIf_op, ← Function.iterate_add_apply, ← hsplit]
  congr 1
  ring

/-- What is left of the loop takes, for each unit of what is left of the length, twice the steps of its first
operator. -/
theorem combineLoop_c1 {w fuel : Nat} (even : Matrix) (m : Nat) (c : Word) {n : BitVec w}
    (hn : n.toNat < 2 ^ (2 * fuel)) :
    (combineLoop fuel even (op m) c n).c1 = crcBit^[2 ^ (m + 1) * n.toNat] c := by
  induction fuel generalizing even m c n with
  | zero =>
    have hzero : n.toNat = 0 := by omega
    simp [combineLoop, hzero]
  | succ fuel ih =>
    have hnext : (n >>> 1 >>> 1).toNat < 2 ^ (2 * fuel) := by
      simp only [BitVec.toNat_ushiftRight, Nat.shiftRight_eq_div_pow]
      rw [Nat.mul_succ, pow_add] at hn
      omega
    rw [← iterate_applyIf (m + 1), combineLoop]
    simp only [← op_succ]
    split_ifs with hstop hstop'
    · simp [hstop]
    · rw [← iterate_applyIf (m + 2)]
      simp [hstop']
    · rw [ih _ _ _ hnext, iterate_applyIf (m + 2)]

/-- combine takes 8 bit steps for each zero byte and XORs the second CRC in (R151). -/
theorem combine_eq_iterate {w : Nat} (c1 c2 : Word) {n : BitVec w} (h : n ≠ 0) :
    combine c1 c2 n = crcBit^[8 * n.toNat] c1 ^^^ c2 := by
  have hfuel : n.toNat < 2 ^ (2 * w) := n.isLt.trans_le (Nat.pow_le_pow_right (by decide) (by omega))
  rw [combine_of_ne_zero c1 c2 h, combineRun]
  exact congrArg (· ^^^ c2) (combineLoop_c1 (square base) 2 c1 hfuel)

/-- The operators of the set bits below bit `k`, one after the other. -/
theorem foldl_opb {w : Nat} (n : BitVec w) (k : Nat) (c : Word) :
    (List.range k).foldl (fun c j => if n.getLsbD j = true then mvm (opb j) c else c) c =
      crcBit^[8 * (n.toNat % 2 ^ k)] c := by
  induction k with
  | zero => simp [Nat.mod_one]
  | succ k ih =>
    have hbit : (if n.getLsbD k = true then mvm (opb k) (crcBit^[8 * (n.toNat % 2 ^ k)] c)
        else crcBit^[8 * (n.toNat % 2 ^ k)] c) = _ := applyIf_op (n.getLsbD k) (k + 3) _
    rw [List.range_succ, List.foldl_append, ih, List.foldl_cons, List.foldl_nil, hbit, ← Function.iterate_add_apply,
      Nat.mod_pow_succ, BitVec.getLsbD, Nat.toNat_testBit]
    congr 1
    ring

/-! ### The CRC-32 of a byte sequence (R149) -/

/-- Two runs of the CRC over the same bytes differ by the bit steps of their first difference. -/
theorem foldl_crcByte_xor (bytes : List (BitVec 8)) (c d : Word) :
    bytes.foldl crcByte (c ^^^ d) = bytes.foldl crcByte c ^^^ crcBit^[8 * bytes.length] d := by
  induction bytes generalizing c d with
  | nil => rfl
  | cons byte bytes ih =>
    have hbyte : crcByte (c ^^^ d) byte = crcByte c byte ^^^ crcBit^[8] d := by
      rw [crcByte, crcByte, ← crcBit_xorLinear.iterate, BitVec.xor_assoc, BitVec.xor_assoc,
        BitVec.xor_comm (byte.zeroExtend 32) d]
    rw [List.foldl_cons, hbyte, ih, ← Function.iterate_add_apply, List.foldl_cons, List.length_cons, Nat.mul_succ]

theorem crc32_append (A B : List (BitVec 8)) :
    crc32 (A ++ B) = crcBit^[8 * B.length] (crc32 A) ^^^ crc32 B := by
  have hstart : A.foldl crcByte 0xFFFFFFFF#32 = 0xFFFFFFFF#32 ^^^ crc32 A := by
    rw [crc32, BitVec.xor_comm, BitVec.xor_assoc, BitVec.xor_self, BitVec.xor_zero]
  have hend : crc32 B = B.foldl crcByte 0xFFFFFFFF#32 ^^^ 0xFFFFFFFF#32 := rfl
  rw [hend, crc32, List.foldl_append, hstart, foldl_crcByte_xor]
  ac_rfl

/-! ### The order of the bit step (R154, R258) -/

/-- The matrix of the map that commutes with the bit step and sends bit 31 to `p`: the bit step takes bit 31
through all the lower bits. -/
def powersFrom (p : Word) : Matrix := Vector.ofFn fun i => crcBit^[31 - i.val] p

/-- OP(2^j) commutes with the bit step, so what it does to bit 31 determines it. -/
theorem op_eq_powersFrom (j : Nat) : op j = powersFrom (crcBit^[2 ^ j] 0x80000000#32) := by
  have hunit : ∀ i : Fin 32, 1#32 <<< i.val = crcBit^[31 - i.val] 0x80000000#32 := by decide
  apply Vector.ext
  intro i hi
  rw [powersFrom, Vector.getElem_ofFn]
  refine (op_getElem j ⟨i, hi⟩).trans ?_
  rw [hunit, ← Function.iterate_add_apply, ← Function.iterate_add_apply, Nat.add_comm]

/-- What squaring an operator does to the image of bit 31. -/
def squareImage (p : Word) : Word := mvm (powersFrom p) p

theorem iterate_squareImage (j : Nat) : squareImage^[j] (crcBit 0x80000000#32) = crcBit^[2 ^ j] 0x80000000#32 := by
  induction j with
  | zero => rfl
  | succ j ih =>
    rw [Function.iterate_succ_apply', ih, squareImage, ← op_eq_powersFrom, mvm_op, ← Function.iterate_add_apply,
      pow_succ, Nat.mul_two]

/-- The 32nd squaring leads from BASE back to BASE: evaluated on the one word that determines an operator. -/
theorem op_thirtyTwo : op 32 = base := by
  have hround : squareImage^[32] (crcBit 0x80000000#32) = crcBit 0x80000000#32 := by decide +kernel
  rw [← op_zero, op_eq_powersFrom, op_eq_powersFrom, ← iterate_squareImage, hround]
  rfl

/-- The order of the bit step divides 2^32 - 1. -/
theorem crcBit_iterate_order {k : Nat} (hk : k + 1 = 2 ^ 32) : crcBit^[k] = id := by
  funext v
  apply crcBit_injective
  calc crcBit (crcBit^[k] v)
      = crcBit^[k + 1] v := (Function.iterate_succ_apply' crcBit k v).symm
    _ = mvm (op 32) v := by rw [hk, mvm_op]
    _ = crcBit v := by rw [op_thirtyTwo, mvm_base]

end Sys2Proof.Machine

namespace Sys2Proof

open Machine

/-- Settles O52: the product with BASE is the bit step of the CRC. -/
theorem baseIsOneBitStep : Obligations.BaseIsOneBitStep := by
  refine ⟨base_getElem 0, fun k hk => (base_getElem k).trans (if_neg hk), ?_, mvm_base⟩
  simp only [base_getElem]
  decide

/-- Settles O53. -/
theorem operatorsArePowersOfBase : Obligations.OperatorsArePowersOfBase := by
  have hbase : mvm base = crcBit := funext mvm_base
  intro j v
  rw [hbase]
  exact ⟨mvm_op j v, mvm_op (j + 3) v⟩

/-- Settles O54: the two closed forms, and (a) to (d) from the linearity and the number of the bit steps. -/
theorem combineClosedForm : Obligations.CombineClosedForm := by
  have hbase : mvm base = crcBit := funext mvm_base
  refine ⟨fun w c1 c2 n hn => ?_, fun c2 n hn => ?_, fun c1 c2 d1 d2 n hn => ?_, fun c1 c2 a b ha hb hlt => ?_,
    fun c1 c2 => ?_⟩
  · rw [foldl_opb, Nat.mod_eq_of_lt n.isLt, hbase]
    exact ⟨combine_eq_iterate c1 c2 hn, combine_eq_iterate c1 c2 hn⟩
  · rw [combine_eq_iterate _ _ hn, (crcBit_xorLinear.iterate _).map_zero, BitVec.zero_xor]
  · rw [combine_eq_iterate _ _ hn, combine_eq_iterate _ _ hn, combine_eq_iterate _ _ hn, crcBit_xorLinear.iterate]
    ac_rfl
  · have hsum : (a + b).toNat = a.toNat + b.toNat := BitVec.toNat_add_of_lt hlt
    have hab : a + b ≠ 0#32 := by
      intro hzero
      have hsum_zero : a.toNat + b.toNat = 0 := hsum ▸ congrArg BitVec.toNat hzero
      exact toNat_ne_zero ha (by omega)
    rw [combine_eq_iterate _ _ ha, combine_eq_iterate _ _ hb, combine_eq_iterate _ _ hab, BitVec.xor_zero,
      ← Function.iterate_add_apply, hsum, Nat.mul_add, Nat.add_comm]
  · rw [combine_eq_iterate _ _ (by decide), opb, mvm_op]
    rfl

/-- Settles O55: both sides run the second sequence from the state the first one leaves. -/
theorem combineGivesCrcOfConcatenation : Obligations.CombineGivesCrcOfConcatenation := by
  intro w A B hlt
  rw [crc32_append]
  by_cases hzero : BitVec.ofNat w B.length = 0
  · have hlen : B.length = 0 := by
      simpa [Nat.mod_eq_of_lt hlt] using congrArg BitVec.toNat hzero
    obtain rfl := List.length_eq_zero_iff.mp hlen
    have hempty : crc32 [] = 0#32 := rfl
    rw [hzero, combine_zero, hempty, BitVec.xor_zero]
    rfl
  · rw [combine_eq_iterate _ _ hzero, BitVec.toNat_ofNat, Nat.mod_eq_of_lt hlt]

/-- Settles O56: 2^32 - 1 zero bytes are eight times the order's multiple 2^32 - 1 of bit steps. -/
theorem longestLengthXorsOperands : Obligations.LongestLengthXorsOperands := by
  refine ⟨op_thirtyTwo, fun c1 c2 => ?_⟩
  have hround : crcBit^[8 * (0xFFFFFFFF#32).toNat] = id := by
    rw [Nat.mul_comm, Function.iterate_mul, crcBit_iterate_order (k := (0xFFFFFFFF#32).toNat) rfl, Function.iterate_id]
  rw [combine_eq_iterate _ _ (by decide), hround, id]

end Sys2Proof


/-! ## A whole COMBINE: the phases it takes, what each half of the loop does, and where it ends (R26, R165 to R167) -/

namespace Sys2Proof.Machine

/-! ### The engine passing through phases -/

/-- The engine goes from `s` through the phases `ps`, one step each and none of them IDLE, to `t`. -/
inductive EngineRun : List Phase → State → State → Prop where
  | stop (s : State) : EngineRun [] s s
  | phase {p : Phase} {ps : List Phase} {s t : State} (hp : s.ph = p) (hbusy : p ≠ .idle)
      (hrest : EngineRun ps s.tick.phaseStep t) : EngineRun (p :: ps) s t

@[simp] theorem State.phaseStep_rstIn (s : State) : s.phaseStep.rstIn = s.rstIn := by
  obtain ⟨-, h⟩ | ⟨-, h⟩ | ⟨p, -, h⟩ | ⟨p, -, h⟩ | ⟨b, again, -, h⟩ | ⟨-, h⟩ := s.phaseStep_cases
  case inr.inr.inr.inr.inl => rw [h, s.applyShift_eq]
  all_goals simp [h, State.loadBase, State.squareInto, State.phaseFin]

/-- Without reset for `k + 1` steps, there is none in the coming one nor in the `k` after the engine's step. -/
theorem noReset_succ {k : Nat} {s : State} :
    noReset (k + 1) s = true ↔ s.rstNow = false ∧ noReset k s.tick.phaseStep = true := by
  unfold noReset State.rstNow
  rw [State.phaseStep_rstIn, State.tick_rstIn]
  cases s.rstIn <;> simp

theorem run_succ {M : Host.Core} {s t : M.State} (h : M.step s = .next t) (k : Nat) :
    M.run (k + 1) s = M.run k t := by
  rw [Host.Core.run, h]

section Runs

variable {s t : State} (h : step s = .next t) (k : Nat)

include h

theorem core_run_succ : Sys2Proof.core.run (k + 1) s = Sys2Proof.core.run k t :=
  run_succ (M := Sys2Proof.core) h k

theorem responses_succ : responses (k + 1) s = t.rsp.toList ++ responses k t := by
  rw [responses, h]

theorem phaseTrace_succ : phaseTrace (k + 1) s = s.ph :: phaseTrace k t := by
  rw [phaseTrace, h]

end Runs

namespace EngineRun

variable {p : Phase} {ps : List Phase} {s t : State}

theorem core_run (h : EngineRun ps s t) (hr : noReset ps.length s = true) :
    Sys2Proof.core.run ps.length s = .next t := by
  induction h with
  | stop s => rfl
  | phase hp hbusy hrest ih =>
    obtain ⟨hnow, hlater⟩ := noReset_succ.mp hr
    rw [List.length_cons, core_run_succ (step_of_phase hnow (hp ▸ hbusy)), ih hlater]

theorem phaseTrace_eq (h : EngineRun ps s t) (hr : noReset ps.length s = true) :
    phaseTrace ps.length s = ps := by
  induction h with
  | stop s => rfl
  | phase hp hbusy hrest ih =>
    obtain ⟨hnow, hlater⟩ := noReset_succ.mp hr
    rw [List.length_cons, phaseTrace_succ (step_of_phase hnow (hp ▸ hbusy)), ih hlater, hp]

/-- Before its last phase is over the engine has not been in IDLE. -/
theorem busy_before (h : EngineRun ps s t) (hr : noReset ps.length s = true) {j : Nat} (hj : j < ps.length)
    {u : State} (hu : Sys2Proof.core.run j s = .next u) : u.ph ≠ .idle := by
  induction h generalizing j with
  | stop s => cases hj
  | phase hp hbusy hrest ih =>
    obtain ⟨hnow, hlater⟩ := noReset_succ.mp hr
    cases j with
    | zero =>
      cases hu
      rwa [hp]
    | succ j =>
      rw [core_run_succ (step_of_phase hnow (hp ▸ hbusy))] at hu
      exact ih hlater (Nat.lt_of_succ_lt_succ hj) hu

/-- The only response of the run is that of its last step: C_FIN alone responds, and leads to IDLE (R72). -/
theorem responses_eq (h : EngineRun (p :: ps) s t) (hr : noReset (ps.length + 1) s = true) :
    responses (ps.length + 1) s = t.rsp.toList := by
  induction ps generalizing p s with
  | nil =>
    obtain ⟨hnow, -⟩ := noReset_succ.mp hr
    cases h with
    | phase hp hbusy hrest =>
      cases hrest
      rw [responses_succ (step_of_phase hnow (hp ▸ hbusy))]
      exact List.append_nil _
  | cons q qs ih =>
    obtain ⟨hnow, hlater⟩ := noReset_succ.mp hr
    cases h with
    | phase hp hbusy hrest =>
      have hsilent : s.tick.phaseStep.rsp = none := by
        refine State.phaseStep_rsp (s := s.tick) fun hfin => ?_
        have hidle : s.tick.phaseStep.ph = .idle := by rw [State.phaseStep_ph, hfin, nextPhase]
        cases hrest with
        | phase hq hbusy' _ => exact hbusy' (hq.symm.trans hidle)
      rw [List.length_cons, responses_succ (step_of_phase hnow (hp ▸ hbusy)), hsilent, ih hrest hlater]
      rfl

end EngineRun

/-! ### The two halves of the loop, by the bank they square into (R158 to R161) -/

/-- The squaring phase that writes bank `b`. -/
def squarePhase : Bank → Phase
  | .even => .cSqe
  | .odd => .cSqo

/-- The phase that applies bank `b`. -/
def applyPhase : Bank → Phase
  | .even => .cApe
  | .odd => .cApo

theorem squarePhase_ne_idle (b : Bank) : squarePhase b ≠ .idle := by cases b <;> decide

theorem applyPhase_ne_idle (b : Bank) : applyPhase b ≠ .idle := by cases b <;> decide

theorem State.phaseStep_of_squarePhase {s : State} {b : Bank} (h : s.ph = squarePhase b) :
    s.phaseStep = (s.squareInto b).setPhase (applyPhase b) := by
  cases b with
  | even => exact State.phaseStep_of_cSqe h
  | odd => exact State.phaseStep_of_cSqo h

theorem State.phaseStep_of_applyPhase {s : State} {b : Bank} (h : s.ph = applyPhase b) :
    s.phaseStep = s.applyShift b (squarePhase (otherBank b)) := by
  cases b with
  | even => exact State.phaseStep_of_cApe h
  | odd => exact State.phaseStep_of_cApo h

/-- The phases of the loop from the half that squares into `b` on. -/
theorem loopPhases_succ (bits : Nat) (b : Bank) :
    loopPhases (bits + 1) (b == .even) =
      squarePhase b :: applyPhase b :: loopPhases bits (otherBank b == .even) := by
  cases b <;> rfl

/-! ### The banks through a COMBINE -/

/-- Both banks are written in full, `d` with the later operator OP(2^(m+1)), the other with OP(2^m). -/
structure BanksHold (d : Bank) (m : Nat) (s : State) : Prop where
  later : s.bank d = op (m + 1)
  earlier : s.bank (otherBank d) = op m
  rows : ∀ b k, s.rowDefined b k = true

/-- Squaring the later operator over the earlier one. -/
theorem BanksHold.squareInto {d : Bank} {m : Nat} {s : State} (h : BanksHold d m s) (p : Phase) :
    BanksHold (otherBank d) (m + 1) ((s.tick.squareInto (otherBank d)).setPhase p) where
  later := by simp [h.later, op_succ]
  earlier := by simp [h.later, (otherBank_ne d).symm]
  rows b k := (State.squareInto_all_written (s := s.tick) fun k => h.rows _ k) b k

/-- The operands of a COMBINE are the same in both states. -/
structure SameOperands (s u : State) : Prop where
  len : u.len = s.len
  crc1 : u.crc1 = s.crc1
  crc2 : u.crc2 = s.crc2

/-- A squaring, with the pins passed on before it and PH moved after it, leaves the operands. -/
theorem sameOperands_squareInto (s : State) (d : Bank) (p : Phase) :
    SameOperands s ((s.tick.squareInto d).setPhase p) := by
  obtain ⟨hcrc1, hcrc2, hlen, -⟩ := s.tick.squareInto_frame d
  exact ⟨hlen, hcrc1, hcrc2⟩

/-- A state at the head of a half-iteration that squares bank `d` into the other, or past the last one. -/
structure AtHead (d : Bank) (m : Nat) (s : State) : Prop where
  ph : s.ph = if s.len = 0#32 then .cFin else squarePhase (otherBank d)
  banks : BanksHold d m s

/-- The squaring half: the later operator is squared over the earlier one, whatever the length is (R158, R160). -/
theorem AtHead.square {d : Bank} {m : Nat} {s : State} (h : AtHead d m s) (hlen : s.len ≠ 0#32) :
    s.ph = squarePhase (otherBank d) ∧ s.tick.phaseStep.ph = applyPhase (otherBank d) ∧
    BanksHold (otherBank d) (m + 1) s.tick.phaseStep ∧ SameOperands s s.tick.phaseStep := by
  have hph : s.ph = squarePhase (otherBank d) := h.ph.trans (if_neg hlen)
  rw [State.phaseStep_of_squarePhase (s := s.tick) hph]
  exact ⟨hph, rfl, h.banks.squareInto _, sameOperands_squareInto ..⟩

/-- The apply half: the later operator is applied if the bit is set, LEN shifted and tested (R159, R161). -/
theorem BanksHold.apply {d : Bank} {m : Nat} {s : State} (h : BanksHold d m s) (hp : s.ph = applyPhase d) :
    AtHead d m s.tick.phaseStep ∧ s.tick.phaseStep.len = s.len >>> 1 ∧
    s.tick.phaseStep.crc1 = applyIf (s.len.getLsbD 0) (op (m + 1)) s.crc1 ∧ s.tick.phaseStep.crc2 = s.crc2 := by
  rw [State.phaseStep_of_applyPhase (s := s.tick) hp]
  refine ⟨⟨?_, ?_, ?_, ?_⟩, State.applyShift_len .., ?_, State.applyShift_crc2 ..⟩
  · rw [State.applyShift_ph, State.applyShift_len]
  · rw [State.applyShift_bank, State.bank_tick, h.later]
  · rw [State.applyShift_bank, State.bank_tick, h.earlier]
  · exact fun b k => (State.applyShift_rowDefined ..).trans (h.rows b k)
  · rw [State.applyShift_crc1, State.bank_tick, h.later]
    rfl

/-- The state a COMBINE leaves, with the result `v`, from a state with CRC2 = `c2` (R166). -/
structure CombineEnd (c2 v : Word) (d : Bank) (m : Nat) (t : State) : Prop where
  ph : t.ph = .idle
  done : t.done = true
  len : t.len = 0#32
  crc2 : t.crc2 = c2
  crc1 : t.crc1 = v
  rsp : t.rsp = some ⟨.ok, v⟩
  banks : BanksHold d m t

/-- C_FIN (R162). -/
theorem AtHead.finish {d : Bank} {m : Nat} {s : State} (h : AtHead d m s) (hlen : s.len = 0#32) :
    s.ph = .cFin ∧ CombineEnd s.crc2 (s.crc1 ^^^ s.crc2) d m s.tick.phaseStep := by
  have hph : s.ph = .cFin := h.ph.trans (if_pos hlen)
  rw [State.phaseStep_of_cFin (s := s.tick) hph]
  exact ⟨hph, rfl, rfl, hlen, rfl, rfl, rfl, h.banks.later, h.banks.earlier, h.banks.rows⟩

theorem bitlen_eq_zero_iff (n : Nat) : bitlen n = 0 ↔ n = 0 := by
  unfold bitlen
  split <;> simp [*]

/-- Shifting takes one bit off. -/
theorem bitlen_div_two {n : Nat} (h : n ≠ 0) : bitlen n = bitlen (n / 2) + 1 := by
  unfold bitlen
  rw [if_neg h, Nat.log2_def]
  split_ifs <;> omega

/-- From the head of a half-iteration on: as many halves as LEN has bits, then C_FIN. CRC1 takes `2^(m+2)` bit steps
for each unit of LEN, and every half moves the later operator on by one bank and one place. -/
theorem AtHead.engineRun {bits m : Nat} {d : Bank} {s : State} (h : AtHead d m s)
    (hbits : bitlen s.len.toNat = bits) :
    ∃ t, EngineRun (loopPhases bits (otherBank d == .even)) s t ∧
      CombineEnd s.crc2 (crcBit^[2 ^ (m + 2) * s.len.toNat] s.crc1 ^^^ s.crc2) (otherBank^[bits] d) (bits + m) t := by
  induction bits generalizing m d s with
  | zero =>
    have hlen : s.len = 0#32 := BitVec.eq_of_toNat_eq ((bitlen_eq_zero_iff _).mp hbits)
    obtain ⟨hph, hend⟩ := h.finish hlen
    refine ⟨_, .phase hph (by decide) (.stop _), ?_⟩
    simpa [hlen] using hend
  | succ bits ih =>
    have hlen : s.len ≠ 0#32 := by
      intro hzero
      simp [hzero, bitlen] at hbits
    obtain ⟨hph, hph', hbanks, hlen₁, hcrc1₁, hcrc2₁⟩ := h.square hlen
    obtain ⟨hhead, hlen₂, hcrc1₂, hcrc2₂⟩ := hbanks.apply hph'
    have hshifted : bitlen s.tick.phaseStep.tick.phaseStep.len.toNat = bits := by
      rw [bitlen_div_two (toNat_ne_zero hlen)] at hbits
      rw [hlen₂, hlen₁, BitVec.toNat_ushiftRight, Nat.shiftRight_eq_div_pow, pow_one]
      exact Nat.succ.inj hbits
    obtain ⟨t, hrun, hend⟩ := ih hhead hshifted
    rw [loopPhases_succ]
    refine ⟨t, .phase hph (squarePhase_ne_idle _) (.phase hph' (applyPhase_ne_idle _) hrun), ?_⟩
    rw [hlen₂, hcrc1₂, hcrc2₂, hlen₁, hcrc1₁, hcrc2₁, iterate_applyIf] at hend
    rwa [Function.iterate_succ_apply, Nat.add_right_comm]

/-- C_INIT and C_SQ0: OP(1) in ODD and OP(2) in EVEN, whatever the banks held (R155, R156). -/
theorem engine_initSq0 {s : State} (hp : s.ph = .cInit) :
    s.tick.phaseStep.ph = .cSq0 ∧ s.tick.phaseStep.tick.phaseStep.ph = .cSq1 ∧
    BanksHold .even 0 s.tick.phaseStep.tick.phaseStep ∧ SameOperands s s.tick.phaseStep.tick.phaseStep := by
  have hrows : ∀ k, (s.tick.loadBase.setPhase .cSq0).tick.rowDefined .odd k = true := fun k => by simp
  rw [State.phaseStep_of_cInit (s := s.tick) hp]
  rw [State.phaseStep_of_cSq0 (s := (s.tick.loadBase.setPhase .cSq0).tick) rfl]
  obtain ⟨hlen, hcrc1, hcrc2⟩ := sameOperands_squareInto (s.tick.loadBase.setPhase .cSq0) .even .cSq1
  refine ⟨rfl, rfl, ⟨?_, ?_, fun b k => State.squareInto_all_written hrows b k⟩, hlen, hcrc1, hcrc2⟩
  · exact (op_succ 0).symm
  · exact op_zero.symm

/-- C_SQ1: OP(4) in ODD, and the loop begins (R157). -/
theorem BanksHold.sq1 {s : State} (h : BanksHold .even 0 s) (hp : s.ph = .cSq1) (hlen : s.len ≠ 0#32) :
    AtHead .odd 1 s.tick.phaseStep ∧ SameOperands s s.tick.phaseStep := by
  rw [State.phaseStep_of_cSq1 (s := s.tick) hp]
  have hsame := sameOperands_squareInto s .odd .cSqe
  refine ⟨⟨?_, h.squareInto .cSqe⟩, hsame⟩
  rw [hsame.len, if_neg hlen]
  rfl

/-- A whole COMBINE from C_INIT on, whatever the banks held (R165, R166). -/
theorem engineRun_combine {s : State} (hp : s.ph = .cInit) (hlen : s.len ≠ 0#32) :
    ∃ t, EngineRun (combinePhases (bitlen s.len.toNat)) s t ∧
      CombineEnd s.crc2 (combine s.crc1 s.crc2 s.len) (otherBank^[bitlen s.len.toNat] .odd)
        (bitlen s.len.toNat + 1) t := by
  obtain ⟨hsq0, hsq1, hbanks, hlen₁, hcrc1₁, hcrc2₁⟩ := engine_initSq0 hp
  obtain ⟨hhead, hlen₂, hcrc1₂, hcrc2₂⟩ := hbanks.sq1 hsq1 (hlen₁ ▸ hlen)
  obtain ⟨t, hrun, hend⟩ := hhead.engineRun rfl
  rw [hlen₂, hlen₁] at hrun
  rw [hlen₂, hcrc1₂, hcrc2₂, hlen₁, hcrc1₁, hcrc2₁] at hend
  refine ⟨t, .phase hp (by decide) (.phase hsq0 (by decide) (.phase hsq1 (by decide) hrun)), ?_⟩
  rwa [combine_eq_iterate _ _ hlen]

/-! ### The number of the phases, and the bank written last (R166, R167) -/

theorem length_loopPhases (bits : Nat) (evenHalf : Bool) : (loopPhases bits evenHalf).length = 2 * bits + 1 := by
  induction bits generalizing evenHalf with
  | zero => rfl
  | succ bits ih => cases evenHalf <;> simp [loopPhases, ih, Nat.mul_succ]

theorem length_combinePhases (bits : Nat) : (combinePhases bits).length = 4 + 2 * bits := by
  simp [combinePhases, length_loopPhases, Nat.add_comm 4]

theorem countP_squares_loopPhases (bits : Nat) (b : Bank) :
    (loopPhases bits (b == .even)).countP (fun p => p.squares) = bits := by
  induction bits generalizing b with
  | zero => rfl
  | succ bits ih =>
    have hsq : (squarePhase b).squares = true := by cases b <;> rfl
    have hap : ¬ (applyPhase b).squares = true := by cases b <;> decide
    rw [loopPhases_succ, List.countP_cons_of_pos hsq, List.countP_cons_of_neg hap, ih]

theorem countP_squares_combinePhases (bits : Nat) :
    (combinePhases bits).countP (fun p => p.squares) = 2 + bits := by
  rw [combinePhases, List.countP_cons_of_neg (by decide), List.countP_cons_of_pos rfl, List.countP_cons_of_pos rfl,
    Nat.add_comm 2]
  exact congrArg (· + 2) (countP_squares_loopPhases bits .even)

/-- The halves alternate, EVEN first. -/
theorem otherBank_iterate (k : Nat) : otherBank^[k] .odd = if k % 2 = 1 then .even else .odd := by
  induction k with
  | zero => rfl
  | succ k ih =>
    rw [Function.iterate_succ_apply', ih]
    obtain h | h := Nat.mod_two_eq_zero_or_one k <;> simp [h, Nat.succ_mod_two_eq_one_iff, otherBank]

/-- The run of an accepted COMBINE with LEN != 0. -/
theorem exec_combine_run {s t : State} (h : exec .combine s = .next t) (hlen : s.len ≠ 0#32) :
    ∃ u, EngineRun (combinePhases (bitlen s.len.toNat)) t u ∧
      CombineEnd s.crc2 (combine s.crc1 s.crc2 s.len) (otherBank^[bitlen s.len.toNat] .odd)
        (bitlen s.len.toNat + 1) u := by
  rw [exec_combine_ne_zero hlen] at h
  cases h
  exact engineRun_combine (s := (s.dependsOn s.acceptanceDefined).clearDone.setPhase .cInit) rfl hlen

end Sys2Proof.Machine

namespace Sys2Proof

open Machine

/-- Settles O38: the run through all the phases ends with `combine` in CRC1, and its last step alone responds. -/
theorem combineRefinesFunction : Obligations.CombineRefinesFunction := by
  refine fun s t ht => ⟨fun hz => ?_, fun hlen hr => ?_⟩
  · rw [exec_combine_zero hz] at ht
    cases ht
    have hcombine : combine s.crc1 s.crc2 s.len = s.crc1 := by
      rw [hz]
      exact combine_zero s.crc1 s.crc2
    rw [hcombine]
    exact ⟨rfl, rfl⟩
  · obtain ⟨u, hrun, hend⟩ := exec_combine_run ht hlen
    rw [← length_combinePhases] at hr ⊢
    refine ⟨⟨u, hrun.core_run hr, hend.ph, hend.crc1⟩, fun j hj v hv => hrun.busy_before hr hj hv, ?_⟩
    exact (hrun.responses_eq hr).trans (by rw [hend.rsp]; rfl)

/-- Settles O39: the bank written last is the one the number of halves leads to. -/
theorem combineEndState : Obligations.CombineEndState := by
  refine fun s t ht => ⟨fun hz => ?_, fun hlen hr => ?_⟩
  · rw [exec_combine_zero hz] at ht
    cases ht
    exact ⟨rfl, rfl, hz, rfl, rfl, rfl, rfl⟩
  · obtain ⟨u, hrun, hend⟩ := exec_combine_run ht hlen
    rw [← length_combinePhases] at hr
    rw [← length_combinePhases]
    obtain ⟨hlater, hearlier, hrows⟩ := hend.banks
    rw [otherBank_iterate] at hlater hearlier
    refine ⟨u, hrun.core_run hr, hend.crc1, hend.crc2, hend.len, hend.ph, hend.done, ?_⟩
    by_cases hodd : bitlen s.len.toNat % 2 = 1
    · rw [if_pos hodd] at hlater hearlier ⊢
      rw [if_pos hodd]
      exact ⟨hlater, hearlier, hrows⟩
    · rw [if_neg hodd] at hlater hearlier ⊢
      rw [if_neg hodd]
      exact ⟨hearlier, hlater, hrows⟩

/-- Settles O40. -/
theorem combinePhaseSequence : Obligations.CombinePhaseSequence := by
  intro s t ht hlen hr
  obtain ⟨u, hrun, -⟩ := exec_combine_run ht hlen
  rw [← length_combinePhases] at hr ⊢
  rw [hrun.phaseTrace_eq hr]
  exact ⟨rfl, countP_squares_combinePhases _⟩

end Sys2Proof


/-! ## Multi-Combine: the host's checks, the fold over chunks, and R187's commands served by the block (R180 to R188) -/

namespace Sys2Proof.Machine

/-! ### The checks, and the closed form of the fold (R180 to R182, R184, R188) -/

/-- Fewer than two pairs are no fold (R181). -/
theorem checkPairs_of_short {ps : List (Word × Word)} (h : ps.length < 2) :
    checkPairs ps = .error .invalidArgument := by
  match ps, h with
  | [], _ => rfl
  | [_], _ => rfl
  | _ :: _ :: _, h => exact absurd h (by simp)

/-- Of at least two pairs the true total alone decides (R188). -/
theorem checkPairs_cons (p : Word × Word) {rest : List (Word × Word)} (hr : rest ≠ []) :
    checkPairs (p :: rest) =
      if trueTotal (p :: rest) < 2 ^ 64 then .ok ⟨p, rest⟩ else .error .totalOverflow := by
  obtain ⟨q, rest, rfl⟩ := List.exists_cons_of_ne_nil hr
  rfl

/-- On elements with both fields the host checks the pairs. -/
theorem checkArgs_ofPair (ps : List (Word × Word)) : checkArgs (ps.map PairArg.ofPair) = checkPairs ps := by
  rw [checkArgs, mapM_complete_ofPair]

/-- Too few elements (R181) or a missing field (R182). -/
theorem checkArgs_invalid {args : List PairArg}
    (h : args.length < 2 ∨ ∃ a ∈ args, a.crc = none ∨ a.len = none) :
    checkArgs args = .error .invalidArgument := by
  cases hm : args.mapM PairArg.complete with
  | none => rw [checkArgs, hm]
  | some ps =>
    obtain rfl := mapM_complete_eq_some.mp hm
    rw [checkArgs_ofPair]
    obtain hshort | ⟨a, ha, hmissing⟩ := h
    · exact checkPairs_of_short (by rwa [List.length_map] at hshort)
    · obtain ⟨p, -, rfl⟩ := List.mem_map.mp ha
      simp [PairArg.ofPair] at hmissing

/-- Where a check fails the host refuses and issues nothing (R186). -/
theorem multiCombine_of_refused {args : List PairArg} {e : HostRefusal} (h : checkArgs args = .error e) :
    multiCombine args = .error e ∧ multiCombineCommands args = [] := by
  rw [multiCombine, multiCombineCommands, h]
  exact ⟨rfl, rfl⟩

/-- The fold from left to right, beside the true total (R180, R184). -/
theorem multiCombinePairs_cons (p : Word × Word) {rest : List (Word × Word)} (hr : rest ≠ [])
    (ht : trueTotal (p :: rest) < 2 ^ 64) :
    multiCombinePairs (p :: rest) = .ok (rest.foldl foldCrc p.1, BitVec.ofNat 64 (trueTotal (p :: rest))) := by
  rw [multiCombinePairs, checkPairs_cons p hr, if_pos ht]
  exact congrArg (fun total => Except.ok (rest.foldl foldCrc p.1, total)) (Fold.total_eq ⟨p, rest⟩)

/-! ### The fold over the chunks of a byte sequence (R183) -/

/-- The pair of a chunk: its CRC-32 and its length. -/
def chunkPair (B : List (BitVec 8)) : Word × Word := (crc32 B, BitVec.ofNat 32 B.length)

theorem trueTotal_chunks {chunks : List (List (BitVec 8))} (h : ∀ B ∈ chunks, B.length < 2 ^ 32) :
    trueTotal (chunks.map chunkPair) = chunks.flatten.length := by
  rw [trueTotal, List.map_map, List.length_flatten]
  refine congrArg List.sum (List.map_congr_left fun B hB => ?_)
  exact (BitVec.toNat_ofNat B.length 32).trans (Nat.mod_eq_of_lt (h B hB))

/-- The running CRC is that of all the bytes so far. -/
theorem foldl_foldCrc_chunks (A : List (BitVec 8)) {chunks : List (List (BitVec 8))}
    (h : ∀ B ∈ chunks, B.length < 2 ^ 32) :
    (chunks.map chunkPair).foldl foldCrc (crc32 A) = crc32 (A ++ chunks.flatten) := by
  induction chunks generalizing A with
  | nil => simp
  | cons B chunks ih =>
    obtain ⟨hB, hrest⟩ := List.forall_mem_cons.mp h
    have hstep : foldCrc (crc32 A) (chunkPair B) = crc32 (A ++ B) := combineGivesCrcOfConcatenation 32 A B hB
    rw [List.map_cons, List.foldl_cons, hstep, ih _ hrest, List.flatten_cons, List.append_assoc]

/-! ### Two combines in a row (R185) -/

/-- Grouping to the right takes the same bit steps on each operand. -/
theorem combine_combine (a b c : Word) {lb lc : Word} (hb : lb ≠ 0#32) (hc : lc ≠ 0#32)
    (hlt : lb.toNat + lc.toNat < 2 ^ 32) :
    combine (combine a b lb) c lc = combine a (combine b c lc) (lb + lc) := by
  have hsum : (lb + lc).toNat = lb.toNat + lc.toNat := BitVec.toNat_add_of_lt hlt
  have hne : lb + lc ≠ 0#32 := by
    intro hzero
    have hsum_zero : lb.toNat + lc.toNat = 0 := hsum ▸ congrArg BitVec.toNat hzero
    exact toNat_ne_zero hb (by omega)
  rw [combine_eq_iterate _ _ hb, combine_eq_iterate _ _ hc, combine_eq_iterate _ _ hc, combine_eq_iterate _ _ hne,
    crcBit_xorLinear.iterate, ← Function.iterate_add_apply, hsum, Nat.mul_add, Nat.add_comm (8 * lb.toNat),
    BitVec.xor_assoc]

/-! ### Runs in parts -/

/-- The responses of a run are those of its first `j` steps, then those of the rest. -/
theorem responses_add {j : Nat} {s t : State} (h : Sys2Proof.core.run j s = .next t) (k : Nat) :
    responses (j + k) s = responses j s ++ responses k t := by
  induction j generalizing s with
  | zero =>
    cases h
    rw [Nat.zero_add]
    rfl
  | succ j ih =>
    obtain ⟨u, hu⟩ := step_next s
    rw [core_run_succ hu] at h
    rw [Nat.add_right_comm, responses_succ hu, responses_succ hu, ih h, List.append_assoc]

/-- Without reset for `j + k` steps there is none in the first `j`, nor in the `k` after the samples of those. -/
theorem noReset_add {j k : Nat} {s t : State} (ht : t.rstIn = s.rstIn.drop j) (h : noReset (j + k) s = true) :
    noReset j s = true ∧ noReset k t = true := by
  rwa [noReset, List.take_add, List.all_append, ← ht, Bool.and_eq_true] at h

theorem rstNow_of_noReset {k : Nat} {s : State} (h : noReset (k + 1) s = true) : s.rstNow = false :=
  (noReset_succ.mp h).1

/-- The engine takes nothing off the port. -/
@[simp] theorem State.phaseStep_cmdIn (s : State) : s.phaseStep.cmdIn = s.cmdIn := by
  obtain ⟨-, h⟩ | ⟨-, h⟩ | ⟨p, -, h⟩ | ⟨p, -, h⟩ | ⟨b, again, -, h⟩ | ⟨-, h⟩ := s.phaseStep_cases
  case inr.inr.inr.inr.inl => rw [h, s.applyShift_eq]
  all_goals simp [h, State.loadBase, State.squareInto, State.phaseFin]

/-- A program on the port has no step of presenting nothing for a passing step to use up (R71). -/
theorem State.tick_cmdIn_presentAll {s : State} {is : List Instr} (h : s.cmdIn = presentAll is) :
    s.tick.cmdIn = presentAll is := by
  rw [State.tick_cmdIn, h]
  cases is <;> rfl

/-- The engine's run leaves a program on the port and uses one sample of `rst` up for each phase. -/
theorem EngineRun.pins {ps : List Phase} {s t : State} (h : EngineRun ps s t) {is : List Instr}
    (hc : s.cmdIn = presentAll is) : t.cmdIn = presentAll is ∧ t.rstIn = s.rstIn.drop ps.length := by
  induction h with
  | stop s => exact ⟨hc, rfl⟩
  | phase hp hbusy hrest ih =>
    obtain ⟨hcmd, hrst⟩ := ih (by rw [State.phaseStep_cmdIn, State.tick_cmdIn_presentAll hc])
    refine ⟨hcmd, ?_⟩
    rw [hrst, State.phaseStep_rstIn, State.tick_rstIn, List.drop_tail, List.length_cons]

/-! ### A program served by the idle block (R71, R187) -/

/-- The idle block with the program `is` on its port and no reset in the next `k` steps. -/
structure Serves (is : List Instr) (k : Nat) (s : State) : Prop where
  ph : s.ph = .idle
  cmdIn : s.cmdIn = presentAll is
  rst : noReset k s = true

/-- When the program is over the block is silent. -/
theorem Serves.responses_nil {k : Nat} {s : State} (h : Serves [] k s) : responses k s = [] := by
  induction k generalizing s with
  | zero => rfl
  | succ k ih =>
    have hsilent : s.presented = none := by rw [State.presented, h.cmdIn]; rfl
    have hrest : Serves [] k s.tick :=
      { ph := h.ph
        cmdIn := State.tick_cmdIn_presentAll h.cmdIn
        rst := (noReset_add (j := 1) (by rw [State.tick_rstIn, List.drop_one]) (Nat.add_comm k 1 ▸ h.rst)).2 }
    rw [responses_succ (step_of_silent (rstNow_of_noReset h.rst) (s.not_busy_iff.mpr h.ph) hsilent), ih hrest]
    rfl

section Serving

variable {i : Instr} {is : List Instr} {k : Nat} {s t : State}

/-- The coming step runs the first instruction of the program. -/
theorem Serves.step_eq (h : Serves (i :: is) (k + 1) s) (hi : i.WellFormed) : step s = exec i s.accept :=
  step_of_legal (rstNow_of_noReset h.rst) h.ph (State.presented_of_cmdIn h.cmdIn)
    (decodeEncodeRoundTrip i hi).1

/-- Once an instruction has taken its step, the rest of the program is on the port. -/
theorem Serves.accepted (h : Serves (i :: is) (k + 1) s) (hcmd : t.cmdIn = s.accept.cmdIn)
    (hrst : t.rstIn = s.accept.rstIn) : t.cmdIn = presentAll is ∧ noReset k t = true := by
  refine ⟨?_, (noReset_add (j := 1) ?_ (Nat.add_comm k 1 ▸ h.rst)).2⟩
  · rw [hcmd, State.accept_cmdIn, h.cmdIn]
    rfl
  · rw [hrst, State.accept_rstIn, List.drop_one]

/-- A WRS to a writable register takes one step and is answered with data 0 (R191). -/
theorem Serves.after_wrs {r : Scalar} {v : Word} (h : Serves (.wrs r v :: is) (k + 1) s) (hr : r.writable = true) :
    Serves is k (s.accept.writeScalar r v) ∧
    responses (k + 1) s = ⟨.ok, 0#32⟩ :: responses k (s.accept.writeScalar r v) := by
  have hpins : (s.accept.writeScalar r v).ph = s.ph ∧ (s.accept.writeScalar r v).cmdIn = s.accept.cmdIn ∧
      (s.accept.writeScalar r v).rstIn = s.accept.rstIn := by cases r <;> exact ⟨rfl, rfl, rfl⟩
  obtain ⟨hph, hcmd, hrst⟩ := hpins
  obtain ⟨hport, hlater⟩ := h.accepted hcmd hrst
  refine ⟨⟨hph.trans h.ph, hport, hlater⟩, ?_⟩
  rw [responses_succ ((h.step_eq (i := .wrs r v) hr).trans (exec_wrs r v _)), State.writeScalar_rsp, if_pos hr]
  rfl

theorem bitlen_le_of_lt {n w : Nat} (h : n < 2 ^ w) : bitlen n ≤ w := by
  unfold bitlen
  split
  case isTrue => exact Nat.zero_le w
  case isFalse hn => exact (Nat.log2_lt hn).mpr h

/-- Accepting a COMBINE leaves the inputs (R154). -/
theorem exec_combine_pins (h : exec .combine s = .next t) : t.cmdIn = s.cmdIn ∧ t.rstIn = s.rstIn := by
  obtain ⟨-, rfl⟩ | ⟨-, rfl⟩ := exec_combine_cases h <;> exact ⟨rfl, rfl⟩

/-- From its acceptance on a COMBINE takes at most 68 further steps; its one response is `combine` of the registers,
which it leaves in CRC1 (R165, R245). -/
theorem exec_combine_served (h : exec .combine s = .next t) (hph : s.ph = .idle) (hrsp : s.rsp = none)
    (hport : t.cmdIn = presentAll is) (hrst : noReset (k + 68) t = true) :
    ∃ k' u, k ≤ k' ∧ Serves is k' u ∧ u.crc1 = combine s.crc1 s.crc2 s.len ∧
      t.rsp.toList ++ responses (k + 68) t = ⟨.ok, combine s.crc1 s.crc2 s.len⟩ :: responses k' u := by
  obtain ⟨hz, ht⟩ | ⟨hlen, ht⟩ := exec_combine_cases h
  · have hresult : combine s.crc1 s.crc2 s.len = s.crc1 := by rw [hz]; exact combine_zero s.crc1 s.crc2
    have hanswer : t.ph = .idle ∧ t.crc1 = s.crc1 ∧ t.rsp = some ⟨.ok, s.crc1⟩ := by
      rw [ht]
      exact ⟨hph, rfl, rfl⟩
    obtain ⟨hidle, hcrc1, hrsp'⟩ := hanswer
    rw [hresult, hrsp']
    exact ⟨k + 68, t, Nat.le_add_right k 68, ⟨hidle, hport, hrst⟩, hcrc1, rfl⟩
  · have hsilent : t.rsp = none := by rw [ht]; exact hrsp
    obtain ⟨u, hrun, hend⟩ := exec_combine_run h hlen
    obtain ⟨hcmd, hdrop⟩ := hrun.pins hport
    have hbits : bitlen s.len.toNat ≤ 32 := bitlen_le_of_lt s.len.isLt
    have hsteps : k + 68 = (combinePhases (bitlen s.len.toNat)).length + (k + 2 * (32 - bitlen s.len.toNat)) := by
      rw [length_combinePhases]
      omega
    rw [hsteps] at hrst ⊢
    obtain ⟨hengine, hafter⟩ := noReset_add hdrop hrst
    refine ⟨_, u, Nat.le_add_right k _, ⟨hend.ph, hcmd, hafter⟩, hend.crc1, ?_⟩
    have hanswer := hrun.responses_eq hengine
    rw [hend.rsp] at hanswer
    rw [hsilent, responses_add (hrun.core_run hengine)]
    exact congrArg (· ++ _) hanswer

/-- A COMBINE takes at most 69 steps with the one that accepts it. -/
theorem Serves.after_combine (h : Serves (.combine :: is) (k + 69) s) :
    ∃ k' u, k ≤ k' ∧ Serves is k' u ∧ u.crc1 = combine s.crc1 s.crc2 s.len ∧
      responses (k + 69) s = ⟨.ok, combine s.crc1 s.crc2 s.len⟩ :: responses k' u := by
  obtain ⟨t, ht⟩ := exec_next .combine s.accept
  obtain ⟨hcmd, hrst⟩ := exec_combine_pins ht
  obtain ⟨hport, hlater⟩ := h.accepted (k := k + 68) hcmd hrst
  rw [responses_succ (k := k + 68) ((h.step_eq rfl).trans ht)]
  exact exec_combine_served (s := s.accept) ht h.ph s.accept_rsp hport hlater

end Serving

/-! ### The commands of a fold, and their responses (R187) -/

/-- The commands of a pair after the first. -/
def pairCommands (p : Word × Word) : List Instr := [.wrs .crc2 p.1, .wrs .len p.2, .combine]

theorem Fold.commands_eq (f : Fold) : f.commands = .wrs .crc1 f.first.1 :: f.rest.flatMap pairCommands := rfl

/-- What the commands of the pairs `ps` are answered, from CRC1 = `acc` on. -/
def foldResponses : (acc : Word) → (ps : List (Word × Word)) → List Response
  | _, [] => []
  | acc, p :: ps => ⟨.ok, 0#32⟩ :: ⟨.ok, 0#32⟩ :: ⟨.ok, foldCrc acc p⟩ :: foldResponses (foldCrc acc p) ps

theorem length_foldResponses (acc : Word) (ps : List (Word × Word)) :
    (foldResponses acc ps).length = 3 * ps.length := by
  induction ps generalizing acc with
  | nil => rfl
  | cons p ps ih => simp [foldResponses, ih, Nat.mul_succ]

/-- After the response that carries the running CRC, the last one carries the fold. -/
theorem getLast?_foldResponses (acc : Word) (ps : List (Word × Word)) :
    (⟨.ok, acc⟩ :: foldResponses acc ps).getLast? = some ⟨.ok, ps.foldl foldCrc acc⟩ := by
  induction ps generalizing acc with
  | nil => rfl
  | cons p ps ih =>
    rw [foldResponses, List.getLast?_cons_cons, List.getLast?_cons_cons, List.getLast?_cons_cons, ih]
    rfl

/-- Each pair takes at most 71 steps: two writes and a COMBINE. -/
theorem Serves.after_pair {p : Word × Word} {is : List Instr} {k : Nat} {s : State}
    (h : Serves (pairCommands p ++ is) (k + 71) s) :
    ∃ k' t, k ≤ k' ∧ Serves is k' t ∧ t.crc1 = foldCrc s.crc1 p ∧
      responses (k + 71) s = ⟨.ok, 0#32⟩ :: ⟨.ok, 0#32⟩ :: ⟨.ok, foldCrc s.crc1 p⟩ :: responses k' t := by
  obtain ⟨hlen, hresponses₁⟩ := Serves.after_wrs (k := k + 70) h rfl
  obtain ⟨hcombine, hresponses₂⟩ := Serves.after_wrs (k := k + 69) hlen rfl
  obtain ⟨k', t, hk, hrest, hcrc1, hresponses₃⟩ := hcombine.after_combine
  refine ⟨k', t, hk, hrest, hcrc1, ?_⟩
  rw [hresponses₁, hresponses₂, hresponses₃]
  rfl

/-- The pairs one after the other, CRC1 holding the running CRC. -/
theorem Serves.responses_pairs {ps : List (Word × Word)} {k : Nat} {s : State}
    (h : Serves (ps.flatMap pairCommands) k s) (hk : 71 * ps.length ≤ k) :
    responses k s = foldResponses s.crc1 ps := by
  induction ps generalizing k s with
  | nil => exact h.responses_nil
  | cons p ps ih =>
    rw [List.length_cons, Nat.mul_succ] at hk
    obtain ⟨k, rfl⟩ := Nat.exists_eq_add_of_le' (show 71 ≤ k by omega)
    rw [List.flatMap_cons] at h
    obtain ⟨k', t, hk', hrest, hcrc1, hresponses⟩ := h.after_pair
    rw [hresponses, ih hrest (by omega), hcrc1, foldResponses]

/-- The whole of R187's procedure: the write of CRC1, then the pairs. -/
theorem Serves.responses_commands {f : Fold} {k : Nat} {s : State} (h : Serves f.commands k s)
    (hk : 71 * (f.rest.length + 1) ≤ k) : responses k s = ⟨.ok, 0#32⟩ :: foldResponses f.first.1 f.rest := by
  obtain ⟨k, rfl⟩ := Nat.exists_eq_add_of_le' (show 1 ≤ k by omega)
  rw [Fold.commands_eq] at h
  obtain ⟨hpairs, hresponses⟩ := h.after_wrs rfl
  rw [hresponses, hpairs.responses_pairs (by omega)]
  rfl

/-- From these responses the host takes the fold's result (R187). -/
theorem multiCombineResult_foldResponses {args : List PairArg} {f : Fold} (h : checkArgs args = .ok f) :
    multiCombineResult args (⟨.ok, 0#32⟩ :: foldResponses f.first.1 f.rest) = .ok (some f.result) := by
  obtain ⟨-, hrest, -⟩ := checkArgs_eq_ok.mp h
  have hlength : (⟨.ok, 0#32⟩ :: foldResponses f.first.1 f.rest).length = f.commands.length := by
    rw [List.length_cons, length_foldResponses, Fold.commands_length, Nat.add_comm]
  have hlast : (⟨.ok, 0#32⟩ :: foldResponses f.first.1 f.rest).getLast? = some ⟨.ok, f.crc⟩ := by
    obtain ⟨p, ps, hcons⟩ := List.exists_cons_of_ne_nil hrest
    rw [Fold.crc, ← getLast?_foldResponses, hcons]
    rfl
  rw [multiCombineResult, h]
  simp only [Except.map, if_pos hlength, hlast, Option.map_some]
  rfl

/-- What the host takes from the block is what the call returns, refused or folded. -/
theorem multiCombineResult_responses {args : List PairArg} {k : Nat} {s : State}
    (h : Serves (multiCombineCommands args) k s) (hk : 71 * args.length ≤ k) :
    multiCombineResult args (responses k s) = (multiCombine args).map some := by
  cases hc : checkArgs args with
  | error e =>
    rw [multiCombineResult, multiCombine, hc]
    rfl
  | ok f =>
    obtain ⟨hargs, -, -⟩ := checkArgs_eq_ok.mp hc
    rw [hargs, List.length_map, List.length_cons] at hk
    rw [multiCombineCommands, hc] at h
    rw [h.responses_commands hk, multiCombineResult_foldResponses hc, multiCombine, hc]
    rfl

/-! ### The host's length test (R216, R258) -/

theorem hostLength_of_nonpos {n : Int} (h : n ≤ 0) : hostLength n = some 0#32 := if_pos h

theorem hostLength_natCast {n : Nat} (hpos : 0 < n) (hlt : n < 2 ^ 32) :
    hostLength n = some (BitVec.ofNat 32 n) := by
  rw [hostLength, if_neg (by omega), if_pos (by omega), BitVec.ofInt_natCast]

theorem hostLength_of_long {n : Int} (h : 2 ^ 32 ≤ n) : hostLength n = none := by
  rw [hostLength, if_neg (by omega), if_neg (by omega)]

end Sys2Proof.Machine

namespace Sys2Proof

open Machine

/-- Settles O58: the first chunk's CRC is the fold's start, and each further chunk appends its bytes. -/
theorem multiCombineGivesCrcOfConcatenation : Obligations.MultiCombineGivesCrcOfConcatenation := by
  intro chunks htwo hshort htotal
  match chunks, htwo with
  | A :: B :: rest, _ =>
    have hsum := trueTotal_chunks hshort
    obtain ⟨-, hrest⟩ := List.forall_mem_cons.mp hshort
    rw [← hsum] at htotal
    have hfold := multiCombinePairs_cons (chunkPair A) (rest := (B :: rest).map chunkPair) (by simp) htotal
    rw [chunkPair, foldl_foldCrc_chunks A hrest] at hfold
    rw [← hsum]
    exact hfold

/-- Settles O59: the checks decide, and on a list that passes them the block serves the fold's commands. -/
theorem hostProcedureChecksThenFolds : Obligations.HostProcedureChecksThenFolds := by
  refine ⟨fun args h => multiCombine_of_refused (checkArgs_invalid h), fun ps htwo htotal => ?_,
    fun p rest hr ht => ⟨?_, multiCombinePairs_cons p hr ht, ?_⟩,
    fun args s k hidle hcmd hk hnr => multiCombineResult_responses ⟨hidle, hcmd, hnr⟩ hk,
    fun _ => hostLength_of_nonpos, fun _ => hostLength_natCast, fun _ => hostLength_of_long⟩
  · match ps, htwo with
    | p :: q :: rest, _ =>
      refine multiCombine_of_refused ?_
      rw [checkArgs_ofPair, checkPairs_cons p (by simp), if_neg (Nat.not_lt.mpr htotal)]
  · rw [multiCombine, checkArgs_ofPair, multiCombinePairs]
  · rw [multiCombineCommands, checkArgs_ofPair, checkPairs_cons p hr, if_pos ht]
    rfl

/-- Settles O60: over chunks both groupings give the CRC of the concatenation. With a zero length in the middle
the left grouping skips the second operand, here 1, which the right one combines in. -/
theorem combineAssociates : Obligations.CombineAssociates := by
  refine ⟨fun A B C hlt => ?_, fun a b c lb lc hb hc => combine_combine a b c hb hc, fun a b c la lb lc => ?_,
    0#32, 1#32, 0#32, 1#32, by decide, ?_⟩
  · rw [combineGivesCrcOfConcatenation 32 A B (by omega), combineGivesCrcOfConcatenation 32 (A ++ B) C (by omega),
      combineGivesCrcOfConcatenation 32 B C (by omega), ← List.length_append,
      combineGivesCrcOfConcatenation 32 A (B ++ C) (by rwa [List.length_append]), List.append_assoc]
  · have htotal : trueTotal [(a, la), (b, lb), (c, lc)] = la.toNat + lb.toNat + lc.toNat := by
      simp [trueTotal, Nat.add_assoc]
    have hlt : trueTotal [(a, la), (b, lb), (c, lc)] < 2 ^ 64 := by
      have ha := la.isLt
      have hb := lb.isLt
      have hc := lc.isLt
      omega
    rw [multiCombinePairs_cons _ (by simp) hlt, htotal]
    rfl
  · have hskip : combine 0#32 1#32 0#32 = 0#32 := combine_zero 0#32 1#32
    have hone : 0#32 + 1#32 = 1#32 := rfl
    rw [hskip, hone, combine_eq_iterate _ _ (by decide), combine_eq_iterate _ _ (by decide),
      combine_eq_iterate _ _ (by decide)]
    decide

end Sys2Proof

/-! ## The access instructions: what they answer, and what is read after a write (R190 to R194) -/

namespace Sys2Proof.Machine

/-- STATUS as a number: 1 after a COMBINE has ended, else 0 (R29). -/
theorem State.status_eq (s : State) : s.status = if s.done then 0x00000001#32 else 0x00000000#32 := by
  unfold State.status
  cases s.done <;> rfl

end Sys2Proof.Machine

namespace Sys2Proof

open Machine

/-- Settles O18: a row is read as it stands in its bank, and after a row write by the rule of `setRow`. -/
theorem rowsReadAndWritten : Obligations.RowsReadAndWritten := by
  refine fun s => ⟨fun k => ⟨_, exec_rdrow .even k s, rfl⟩, fun k => ⟨_, exec_rdrow .odd k s, rfl⟩,
    fun b c k j v => ⟨_, exec_wrrow b k v s, rfl, ?_, _, exec_rdrow c j _, ?_⟩⟩
  · simp [State.rowDefined_setRow]
  · rw [State.respond_rsp, State.readRow_respond, State.readRow_setRow]
    rfl

/-- Settles O15. -/
theorem nopOnlyAnswers : Obligations.NopOnlyAnswers := exec_nop

/-- Settles O16: the write by the register it names; STATUS is rejected. -/
theorem wrsWritesSelectedRegister : Obligations.WrsWritesSelectedRegister :=
  fun s v => ⟨⟨_, exec_wrs .crc1 v s, rfl, rfl, rfl⟩, ⟨_, exec_wrs .crc2 v s, rfl, rfl, rfl⟩,
    ⟨_, exec_wrs .len v s, rfl, rfl, rfl⟩, exec_wrs .status v s⟩

/-- Settles O17: the read by the register it names; STATUS reads DONE as a number. -/
theorem rdsAnswersSelectedRegister : Obligations.RdsAnswersSelectedRegister := by
  refine fun s => ⟨⟨_, exec_rds .crc1 s, rfl⟩, ⟨_, exec_rds .crc2 s, rfl⟩, ⟨_, exec_rds .len s, rfl⟩,
    _, exec_rds .status s, rfl, ?_⟩
  rw [← s.status_eq]
  rfl

end Sys2Proof

/-! ## Rejected commands: the word that raises E_ACCESS, and what a rejection leaves (R214, R215) -/

namespace Sys2Proof

/-- A word that passes the must-be-zero check encodes what is read from it; here that is a WRS of STATUS (R214). -/
theorem decode_eq_eAccess_iff (c : Command) : decode c = .error .eAccess ↔ c.cmd = 0x1003#16 := by
  constructor
  · intro h
    obtain ⟨-, hd⟩ | ⟨op, ho, ⟨-, hd⟩ | ⟨hz, hs, -⟩ | ⟨-, -, hd⟩⟩ := decode_cases c
    · simp [hd] at h
    · simp [hd] at h
    · rw [writesStatus_iff, code_toNat_eq_one_iff, ← scalarField_eq_status_iff] at hs
      obtain ⟨rfl, hstatus⟩ := hs
      have hinstr : instrOf .wrs c = .wrs .status c.wdata := congrArg (Instr.wrs · c.wdata) hstatus
      rw [← encode_instrOf ho hz, hinstr]
      rfl
    · simp [hd] at h
  · intro h
    apply decode_of_writesStatus (op := .wrs) <;> rw [h] <;> rfl

end Sys2Proof

namespace Sys2Proof.Machine

/-- In IDLE a rejected command is taken from the port, and its exception is raised (R215). -/
theorem step_of_rejected {s : State} {c : Command} {rest : List (Option Command)} {e : Reject}
    (hr : s.rstNow = false) (hp : s.ph = .idle) (hc : s.cmdIn = some c :: rest) (hd : decode c = .error e) :
    step s = .next { s with rstIn := s.rstIn.tail, cmdIn := rest, rsp := some ⟨errOf e, 0#32⟩ } := by
  rw [step_of_presented hr (s.not_busy_iff.mpr hp) (State.presented_of_cmdIn hc), runCommand_error hd,
    State.accept_of_cmdIn hc]
  rfl

end Sys2Proof.Machine

namespace Sys2Proof

open Machine

/-- Settles O5: the step of the one word is a rejected command's, which writes the pins alone. -/
theorem accessErrorIsOneWord : Obligations.AccessErrorIsOneWord := by
  refine ⟨decode_eq_eAccess_iff, fun s v rest hr hp hc => ?_⟩
  have hd : decode ⟨0x1003#16, v⟩ = .error .eAccess := (decode_eq_eAccess_iff _).mpr rfl
  exact ⟨_, step_of_rejected hr hp hc hd, rfl, rfl, rfl⟩

/-- Settles O8; the codes are those of the three error responses (R211). -/
theorem rejectionChangesNothing : Obligations.RejectionChangesNothing := by
  intro s c rest e hr hp hc hd
  refine ⟨errOf e, step_of_rejected hr hp hc hd, ?_⟩
  cases e <;> rfl

end Sys2Proof

/-! ## Reset and waiting commands: what a reset step leaves, the bound on a COMBINE, and the port while busy (R240 to R253) -/

namespace Sys2Proof.Machine

/-! ### The port through a step (R70, R71) -/

theorem State.cmdReady_iff (s : State) : s.cmdReady = true ↔ s.ph = .idle ∧ s.rstNow = false := by
  simp [State.cmdReady, State.not_busy_iff]

/-- A command that is not taken stays presented. -/
theorem State.tick_cmdIn_of_some {s : State} {c : Command} {rest : List (Option Command)}
    (h : s.cmdIn = some c :: rest) : s.tick.cmdIn = some c :: rest := by
  rw [State.tick_cmdIn, h]

/-- A passing step adds nothing to what the host presents. -/
theorem State.tick_cmdIn_subset (s : State) : s.tick.cmdIn ⊆ s.cmdIn := by
  rw [State.tick_cmdIn]
  split
  case h_1 rest h => exact h ▸ List.subset_cons_self none rest
  case h_2 => exact List.Subset.refl _

/-- A host that is to be silent presents nothing. -/
theorem State.presented_of_quiet {s : State} (h : ∀ c ∈ s.cmdIn, c = none) : s.presented = none := by
  unfold State.presented
  cases hc : s.cmdIn with
  | nil => rfl
  | cons c rest => exact h c (by simp [hc])

/-- `s` with another port: what the host presents from here on is `port`. -/
def State.withPort (s : State) (port : List (Option Command)) : State := { s with cmdIn := port }

theorem State.applyShift_withPort (s : State) (port : List (Option Command)) (b : Bank) (again : Phase) :
    (s.withPort port).applyShift b again = (s.applyShift b again).withPort port := by
  cases hbit : s.len.getLsbD 0 with
  | false =>
    rw [State.applyShift_of_no_bit hbit, State.applyShift_of_no_bit (s := s.withPort port) hbit]
    rfl
  | true =>
    rw [State.applyShift_of_bit hbit, State.applyShift_of_bit (s := s.withPort port) hbit]
    cases b <;> rfl

/-- No phase looks at the port (R253). -/
theorem State.phaseStep_withPort (s : State) (port : List (Option Command)) :
    (s.withPort port).phaseStep = s.phaseStep.withPort port := by
  have hph : (s.withPort port).ph = s.ph := rfl
  unfold State.phaseStep
  rw [hph]
  cases s.ph with
  | cApe => exact s.applyShift_withPort port .even .cSqo
  | cApo => exact s.applyShift_withPort port .odd .cSqe
  | _ => rfl

/-! ### What a reset leaves, and the silence after it (R240, R241) -/

/-- After a reset every row holds the free value of that reset (R37). -/
theorem State.readRow_takeReset (s : State) (b : Bank) (k : Fin 32) :
    s.takeReset.readRow b k = Config.resetData s.draw (.row b k) := by
  cases b <;> simp [State.readRow, State.bank, State.postReset]

section QuietPort

variable {s : State} (hs : s.rstNow = true ∨ s.ph = .idle) (hc : ∀ c ∈ s.cmdIn, c = none)

include hs hc

/-- With nothing left to present, a step that resets the block or finds it idle is silent and ends the run. -/
theorem step_of_quiet {t : State} (ht : step s = .next t) : RunOver t ∧ t.rsp = none := by
  have htick : ∀ c ∈ s.tick.cmdIn, c = none := fun c hmem => hc c (s.tick_cmdIn_subset hmem)
  have hnone : s.presented = none := State.presented_of_quiet hc
  obtain ⟨-, rfl⟩ | ⟨hr, hb, -⟩ | ⟨-, hb, -, rfl⟩ | ⟨c, e, -, -, hsome, -⟩ | ⟨c, i, -, -, hsome, -⟩ :=
    step_cases ht
  · exact ⟨⟨rfl, htick⟩, rfl⟩
  · obtain hr' | hp := hs
    · simp [hr] at hr'
    · exact absurd hp (s.busy_iff.mp hb)
  · exact ⟨⟨s.not_busy_iff.mp hb, htick⟩, rfl⟩
  · simp [hnone] at hsome
  · simp [hnone] at hsome

/-- From such a state on no response ever comes, whatever `rst` does. -/
theorem responses_of_quiet (k : Nat) : responses k s = [] := by
  induction k generalizing s with
  | zero => rfl
  | succ k ih =>
    obtain ⟨t, ht⟩ := step_next s
    obtain ⟨⟨hidle, hquiet⟩, hrsp⟩ := step_of_quiet hs hc ht
    rw [responses_succ ht, hrsp, ih (.inr hidle) hquiet]
    rfl

end QuietPort

/-! ### The bound on what is left of a COMBINE, whatever the registers hold (R245) -/

/-- The steps left in phase `p`, where `bits` bits of LEN stand above the lowest: two for each of those bits, and
those of the half-iteration of the lowest one, of C_FIN and of the set-up that are still to come. -/
def stepsLeft (p : Phase) (bits : Nat) : Nat :=
  match p with
  | .idle => 0
  | .cFin => 1
  | .cApe | .cApo => 2 * bits + 2
  | .cSqe | .cSqo => 2 * bits + 3
  | .cSq1 => 2 * bits + 4
  | .cSq0 => 2 * bits + 5
  | .cInit => 2 * bits + 6

/-- The number of steps within which `s` is idle, if no reset comes between. -/
def State.stepsToIdle (s : State) : Nat := stepsLeft s.ph (bitlen (s.len.toNat / 2))

theorem State.stepsToIdle_eq_zero_iff (s : State) : s.stepsToIdle = 0 ↔ s.ph = .idle := by
  unfold State.stepsToIdle
  cases s.ph <;> simp [stepsLeft]

theorem State.stepsToIdle_le (s : State) : s.stepsToIdle ≤ 68 := by
  have hbits : bitlen (s.len.toNat / 2) ≤ 31 := bitlen_le_of_lt (by omega)
  unfold State.stepsToIdle
  cases s.ph <;> simp only [stepsLeft] <;> omega

/-- After an apply half: C_FIN if no bit stands above the lowest one, else a squaring with one bit fewer. -/
theorem stepsLeft_apply {p : Phase} (hp : p = .cSqe ∨ p = .cSqo) (n : Nat) :
    stepsLeft (if n ≤ 1 then .cFin else p) (bitlen (n / 2 / 2)) < 2 * bitlen (n / 2) + 2 := by
  split
  case isTrue => simp only [stepsLeft]; omega
  case isFalse h =>
    have hshift : bitlen (n / 2) = bitlen (n / 2 / 2) + 1 := bitlen_div_two (by omega)
    obtain rfl | rfl := hp <;> simp only [stepsLeft] <;> omega

/-- Every phase of the engine leaves fewer steps to come. -/
theorem State.stepsToIdle_phaseStep_lt {s : State} (hp : s.ph ≠ .idle) :
    s.phaseStep.stepsToIdle < s.stepsToIdle := by
  have hshift : (s.len >>> 1).toNat = s.len.toNat / 2 := by
    rw [BitVec.toNat_ushiftRight, Nat.shiftRight_eq_div_pow, pow_one]
  unfold State.stepsToIdle
  rw [State.phaseStep_ph, State.phaseStep_len]
  cases hph : s.ph with
  | idle => exact absurd hph hp
  | cApe =>
    rw [if_pos (.inl rfl), hshift]
    exact stepsLeft_apply (.inr rfl) _
  | cApo =>
    rw [if_pos (.inr rfl), hshift]
    exact stepsLeft_apply (.inl rfl) _
  | _ => simp [nextPhase, stepsLeft]

/-- Without reset the block is idle after at most as many steps as are left. -/
theorem reachesIdle {k : Nat} {s : State} (hr : noReset k s = true) (hk : s.stepsToIdle ≤ k) :
    ∃ j ≤ k, ∃ t : State, Sys2Proof.core.run j s = .next t ∧ t.ph = .idle := by
  induction k generalizing s with
  | zero =>
    have hzero : s.stepsToIdle = 0 := Nat.le_zero.mp hk
    exact ⟨0, le_rfl, s, rfl, s.stepsToIdle_eq_zero_iff.mp hzero⟩
  | succ k ih =>
    by_cases hp : s.ph = .idle
    · exact ⟨0, Nat.zero_le _, s, rfl, hp⟩
    · obtain ⟨hnow, hlater⟩ := noReset_succ.mp hr
      have hlt : s.tick.phaseStep.stepsToIdle < s.stepsToIdle := State.stepsToIdle_phaseStep_lt (s := s.tick) hp
      obtain ⟨j, hj, t, hrun, hidle⟩ := ih hlater (Nat.le_of_lt_succ (hlt.trans_le hk))
      exact ⟨j + 1, Nat.succ_le_succ hj, t, (core_run_succ (step_of_phase hnow hp) j).trans hrun, hidle⟩

end Sys2Proof.Machine

namespace Sys2Proof

open Machine

/-- Settles O12: the reset step leaves the block idle, and only a presented command could make it respond. -/
theorem resetAbortsCombine : Obligations.ResetAbortsCombine :=
  fun _ hr hc k => responses_of_quiet (.inl hr) hc k

/-- Settles O41: no state has more than 68 steps left, and every phase leaves fewer. -/
theorem engineReturnsToIdle : Obligations.EngineReturnsToIdle :=
  fun s hr => reachesIdle hr s.stepsToIdle_le

/-- Settles O9: the step is the phase's, which neither takes the command nor looks at it. -/
theorem commandsWaitWhileBusy : Obligations.CommandsWaitWhileBusy := by
  intro s c rest hr hp hc
  refine ⟨_, step_of_phase hr hp, ?_, ?_⟩
  · rw [State.phaseStep_cmdIn, State.tick_cmdIn_of_some hc]
  · have hempty : (s.withPort []).tick = s.tick.withPort [] := rfl
    exact (step_of_phase (s := s.withPort []) hr hp).trans (by rw [hempty, State.phaseStep_withPort]; rfl)

/-- Settles O11. -/
theorem resetStep : Obligations.ResetStep := by
  intro s hr
  refine ⟨?_, _, step_of_rst hr, rfl, rfl, rfl, rfl, rfl, rfl, rfl, State.readRow_takeReset _, rfl, rfl, rfl,
    State.rowDefined_takeReset _, fun c rest hc => State.tick_cmdIn_of_some hc,
    fun hr' => (State.cmdReady_iff _).mpr ⟨rfl, hr'⟩⟩
  simp [State.cmdReady, hr]

end Sys2Proof
